-- ==== Sys2Proof/Word.lean ====
section
/-! DEFINITION. The widths the manual gives: bytes of link frames, the 48-bit reference count, the 32-bit counters. -/

namespace Sys2Proof

/-- One byte of a link frame (R3). -/
abbrev Byte := BitVec 8

/-- A value of the reference count, or a stamp taken from it (R23). -/
abbrev Count := BitVec 48

/-- A 32-bit count that wraps (R21, R70, R131). -/
abbrev Counter := BitVec 32

/-- The bytes of a frame as they pass on the link, header first, check last (R3). -/
abbrev Frame := List Byte

end Sys2Proof
end

