-- ==== Sys2Proof/Syntax.lean ====
section
/-! DEFINITION. The commands of the part: one constructor per row of spec/opcode_table.json. -/

namespace Sys2Proof

/-- The two link ports: A faces the cab segment, B the running-gear segment (section 1.1). -/
inductive Port where
  | a | b
  deriving DecidableEq, Repr

/-- Axle slots 0..5 (00_scope section 6). -/
abbrev AxleSlot := Fin 6

/-- Node slots 0..7: slot n below 6 is the inverter of axle n, slot 6 the valve unit of truck 1, slot 7 that of truck 2. -/
abbrev NodeSlot := Fin 8

/-- Trucks by position: 0 is truck 1 (axles 0 to 2), 1 is truck 2 (axles 3 to 5). -/
abbrev TruckSlot := Fin 2

/-- Demand sources: 0 the driver's brake controller, 1 the train protection unit. -/
abbrev SourceSlot := Fin 2

/-- The commands. A service of a management request has no operand: the request at the head of the agent's queue holds its
arguments (R166). -/
inductive Instr where
  /-- POWER_ON_RESET (R175), with the strap levels (bit n is address strap n) and the incident line's level found (R1, R164). -/
  | powerOnReset (straps : BitVec 4) (lineActive : Bool)
  /-- RECEPTION_START (R8) at a port. -/
  | receptionStart (p : Port)
  /-- FRAME_ARRIVAL (R9): the bytes received at a port between the marks of the physical layer. -/
  | frameArrival (p : Port) (bytes : Frame)
  /-- TRANSMISSION_COMPLETE (R20) at a port. -/
  | transmissionComplete (p : Port)
  /-- COUNT_STEP (R23). -/
  | countStep
  /-- AXLE_AGE_EXPIRY (R44). -/
  | axleAgeExpiry (i : AxleSlot)
  /-- REFERENCE_HOLD_EXPIRY (R50). -/
  | referenceHoldExpiry
  /-- DEMAND_LOSS_EXPIRY (R58). -/
  | demandLossExpiry (d : SourceSlot)
  /-- EPOCH_TIMER_EXPIRY (R71). -/
  | epochTimerExpiry
  /-- SLIDE_HOLD_EXPIRY (R114). -/
  | slideHoldExpiry (i : AxleSlot)
  /-- RELIEF_LOCKOUT_EXPIRY (R120). -/
  | reliefLockoutExpiry (t : TruckSlot)
  /-- EXCHANGE_DEADLINE_EXPIRY (R129). -/
  | exchangeDeadlineExpiry (n : NodeSlot)
  /-- CONTROL_LOSS_EXPIRY (R136). -/
  | controlLossExpiry
  /-- LINE_ACTIVE_EDGE (R164). -/
  | lineActiveEdge
  /-- LINE_INACTIVE_EDGE (R164). -/
  | lineInactiveEdge
  /-- LINE_DEBOUNCE_EXPIRY (R164). -/
  | lineDebounceExpiry
  /-- GET_STATE (R168). -/
  | getState
  /-- SET_STATE (R172). -/
  | setState
  /-- READ_ENTRY (R169). -/
  | readEntry
  /-- WRITE_ENTRY (R169). -/
  | writeEntry
  /-- READ_STATUS, section PART (R170). -/
  | readStatusPart
  /-- READ_STATUS, section NODES (R138). -/
  | readStatusNodes
  /-- READ_STATUS, section LINK (R170). -/
  | readStatusLink
  /-- READ_STATUS, section SPEED (R53). -/
  | readStatusSpeed
  /-- READ_EVENTS (R148). -/
  | readEvents
  /-- NODE_CUT (R134). -/
  | nodeCut
  /-- NODE_RESTORE (R135). -/
  | nodeRestore
  /-- CLEAR_FALLBACK (R89). -/
  | clearFallback
  /-- TRIGGER (R163). -/
  | trigger
  /-- RECORD_LIST (R160). -/
  | recordList
  /-- RECORD_HEADER (R161). -/
  | recordHeader
  /-- RECORD_READ (R162). -/
  | recordRead
  /-- RECORD_RELEASE (R163). -/
  | recordRelease
  /-- TIME_READ (R30). -/
  | timeRead
  /-- TIME_SET (R28). -/
  | timeSet
  /-- TIME_CORRECT (R27). -/
  | timeCorrect
  /-- READ_TIMEMARK (R34). -/
  | readTimemark
  /-- INJECT_SAMPLE (R52). -/
  | injectSample
  /-- RESET (R176). -/
  | reset
  /-- MGMT_UNKNOWN_KIND (R167). -/
  | mgmtUnknownKind
  deriving DecidableEq, Repr

end Sys2Proof
end

