-- ==== Sys2Proof/Config.lean ====
section
/-! DEFINITION. The free values: what the manual leaves open. Each is a constant without a body, applied to the number of
the draw (State.draws), so that nothing can be proved about the value it takes. -/

namespace Sys2Proof

/-- The six orders in which three reactions can be taken. -/
inductive Order3 where
  | abc | acb | bac | bca | cab | cba
  deriving DecidableEq, Repr, Inhabited

/-- FREE. The order of three reactions that the manual says are not ordered among themselves: to an effort publication
(R87) and at an entry into EMERGENCY (R63). Notes 6 and 7. -/
opaque Config.freeOrder : Nat → Order3

/-- FREE. Whether the first of two reactions that the manual does not order is taken first (R45, R46). Notes 8 and 9. -/
opaque Config.freeFlip : Nat → Bool

/-- FREE. The byte that stands for an absent last accepted sequence in READ_STATUS PART page 0 (R170). Note 14. -/
opaque Config.absentSequence : Nat → Byte

/-- FREE. The five bytes (mode, level, floor) that stand for an absent last payload in READ_STATUS PART page 0 (R170).
Note 14. -/
opaque Config.absentPayload : Nat → BitVec 40

/-- FREE. What a total above 65535 is sent as in a field of two bytes (R162, R170): draw, then the total. Note 15. -/
opaque Config.wideTotal : Nat → Nat → BitVec 16

end Sys2Proof
end

