-- ==== Sys2Proof/Machine/Tables.lean ====
section
/-! DEFINITION. The parameter tables of Table 11-3, one structure per entry, fields in the order the manual carries them. -/

namespace Sys2Proof.Machine

/-- The port a classification entry asks for (Table 1-16). -/
inductive PortSel where
  | a | b | either
  deriving DecidableEq, Repr

/-- What is done with a matching frame (Table 1-16). -/
inductive Action where
  | forward | observe | consume | drop
  deriving DecidableEq, Repr

/-- The block that takes a matching frame, with its role argument (Table 1-16). -/
inductive Role where
  | noRole
  | demand (d : SourceSlot)
  | axleSample (first last : AxleSlot)
  | report (n : NodeSlot)
  | timeMark
  deriving DecidableEq, Repr

/-- CLASSIFY entry (Table 1-16, R10). -/
structure ClassEntry where
  valid  : Bool
  source : Byte
  kind   : Byte
  port   : PortSel
  action : Action
  role   : Role
  deriving DecidableEq, Repr

/-- AXLE entry (R36): pulse distance in µm. -/
structure AxleEntry where
  enabled : Bool
  pulse   : Nat
  deriving DecidableEq, Repr

/-- NODE entry (Table 8-1): response time in ms. -/
structure NodeEntry where
  present  : Bool
  address  : Byte
  join     : Nat
  degrade  : Nat
  lost     : Nat
  response : Nat
  deriving DecidableEq, Repr

/-- A point of the capability curve (Table 5-3). -/
structure CurvePoint where
  speed  : Nat
  effort : Nat
  deriving DecidableEq, Repr

/-- CURVE table (Table 5-3). -/
structure CurveTable where
  points : Vector CurvePoint 16
  count  : Nat
  deriving DecidableEq, Repr

/-- BLEND set, in the order Table 11-3's notes carry it (Tables 4-2, 5-1; R136). -/
structure BlendSet where
  fullService : Nat
  axleLimit   : Nat
  period      : Nat
  airLead     : Nat
  degraded    : Nat
  dynInEmergency : Bool
  penalty     : Nat
  demandLoss  : Nat
  protection  : Bool
  controlLoss : Nat
  deriving DecidableEq, Repr

/-- TRUCK entry (Table 5-2). -/
structure TruckEntry where
  airPresent : Bool
  dead      : Nat
  gain      : Nat
  maximum   : Nat
  emergency : Nat
  deriving DecidableEq, Repr

/-- RAMP set (Table 6-1). -/
structure RampSet where
  application : Nat
  release     : Nat
  jerk        : Nat
  airApplication : Nat
  airRelease  : Nat
  deriving DecidableEq, Repr

/-- SPEED set (Table 3-2). -/
structure SpeedSet where
  ageLimit   : Nat
  decelLimit : Nat
  accelLimit : Nat
  holdTime   : Nat
  trendBand  : Nat
  deriving DecidableEq, Repr

/-- SLIDE set (Table 7-2). -/
structure SlideSet where
  minSpeed      : Nat
  slipOnset     : Nat
  slipRelease   : Nat
  absoluteOnset : Nat
  decelOnset    : Nat
  onsetCount    : Nat
  reliefFactor  : Nat
  ceilingFactor : Nat
  holdTime      : Nat
  reapplyRate   : Nat
  recoveryRate  : Nat
  cycleLimit    : Nat
  lockoutTime   : Nat
  deriving DecidableEq, Repr

/-- The quantity a monitor entry watches: source kind with its index (Tables 9-1, 9-2). -/
inductive MonSource where
  | refSpeed | decelEstimate | demandedEffort | dynamicTarget | dynamicAchieved | airAchieved | shortfall | airUnplaced
  | axleSlip (i : AxleSlot)
  | truckPressure (t : TruckSlot)
  deriving DecidableEq, Repr

/-- The condition of a monitor entry (Table 9-1). -/
inductive MonCondition where
  | above | below | crossUp | crossDown | crossAny
  deriving DecidableEq, Repr

/-- MONITOR entry (Table 9-1); the action set is its four members. -/
structure MonEntry where
  enabled     : Bool
  source      : MonSource
  condition   : MonCondition
  threshold   : Int
  hysteresis  : Nat
  persistence : Nat
  event       : Bool
  record      : Bool
  airFallback : Bool
  failsafe    : Bool
  deriving DecidableEq, Repr

/-- The store policy (Table 10-1). -/
inductive StorePolicy where
  | overwriteOldest | keepUnread | keepTimed
  deriving DecidableEq, Repr

/-- RECORDER set (Table 10-1); the cause mask is its sum of mask values. -/
structure RecorderSet where
  depth     : Nat
  post      : Nat
  maximum   : Nat
  extension : Bool
  policy    : StorePolicy
  keepTime  : Nat
  causeMask : Nat
  debounce  : Nat
  deriving DecidableEq, Repr

/-- The mark policy (Table 2-4). -/
inductive MarkPolicy where
  | overwrite | holdUntilRead | holdWithExpiry
  deriving DecidableEq, Repr

/-- TIME set (Table 2-4): hold time in ms. -/
structure TimeSet where
  policy : MarkPolicy
  hold   : Nat
  deriving DecidableEq, Repr

/-- LINK set (R147). -/
structure LinkSet where
  noticeAddress : Byte
  noticePort    : Port
  deriving DecidableEq, Repr

/-- All parameter tables (Table 11-3). -/
structure Tables where
  classify : Vector ClassEntry 32
  axle     : Vector AxleEntry 6
  node     : Vector NodeEntry 8
  curve    : CurveTable
  blend    : BlendSet
  truck    : Vector TruckEntry 2
  ramp     : RampSet
  speed    : SpeedSet
  slide    : SlideSet
  monitor  : Vector MonEntry 8
  recorder : RecorderSet
  time     : TimeSet
  link     : LinkSet
  deriving DecidableEq, Repr

end Sys2Proof.Machine
end

