-- ==== Sys2Proof/Machine/Blocks.lean ====
section
/-! DEFINITION. The state of each of the part's ten blocks (00_scope section 2), as plain data. -/

namespace Sys2Proof.Machine

/-- A timer on the reference count: stopped, or running with an expiry (R25). -/
abbrev Timer := Option Count

/-! ## Link ports and forwarder (chapter 1) -/

/-- What a frame of an originated queue was built as: R125 withdraws effort orders and nothing else. -/
inductive Origin where
  | order (n : NodeSlot)
  | release (n : NodeSlot)
  | response
  | notice
  deriving DecidableEq, Repr

/-- A frame in an originated queue, sequence and check in place (R7, R18). -/
structure OrigFrame where
  origin : Origin
  bytes  : Frame
  deriving DecidableEq, Repr

/-- The line state of a transmitter (R19), with the frame on the line. -/
inductive Line where
  | idle
  | sending (f : Frame)
  deriving DecidableEq, Repr

/-- One port: its receiver, its two queues, its arbiter and its per-port counters (R8, R17 to R21). -/
structure PortState where
  /-- arrival stamp of the frame whose reception is under way (R8) -/
  rx : Option Count
  forward : List Frame
  originated : List OrigFrame
  line : Line
  run : Nat
  good : Counter
  badCheck : Counter
  badForm : Counter
  overflow : Counter
  transmitted : Counter
  deriving DecidableEq, Repr

/-- Both ports and what they share (R1, R7, R21). -/
structure LinkBlock where
  own : Byte
  portA : PortState
  portB : PortState
  txSeq : Byte
  unclaimed : Counter
  demandRefused : Counter
  sampleRefused : Counter
  reportsRefused : Counter
  responsesDropped : Counter
  deriving DecidableEq, Repr

/-! ## Time base (chapter 2) -/

inductive Sense where
  | advance | retard
  deriving DecidableEq, Repr

inductive MarkState where
  | empty | fresh | read
  deriving DecidableEq, Repr

/-- The mark capture (section 2.7). -/
structure MarkCapture where
  state : MarkState
  number : BitVec 16
  master : BitVec 48
  stamp : Count
  discards : Nat
  deriving DecidableEq, Repr

/-- Reference count, corrector and mark capture (R23, R26, R33). -/
structure TimeBlock where
  count : Count
  value : BitVec 24
  sense : Sense
  accumulator : BitVec 24
  mark : MarkCapture
  deriving DecidableEq, Repr

/-! ## Speed unit (chapter 3) -/

inductive Trend where
  | flat | decel | accel
  deriving DecidableEq, Repr

inductive Validity where
  | unknown | valid | stale | faulted
  deriving DecidableEq, Repr

/-- The speed part of an axle record (Table 3-1); `unknown` is the validity NONE, `lastTrend` absent is NONE. -/
structure AxleSpeed where
  enabled : Bool
  pulse : Nat
  speed : Nat
  stamp : Count
  prevStamp : Count
  decel : Int
  trend : Trend
  lastTrend : Option Trend
  validity : Validity
  ageTimer : Timer
  deriving DecidableEq, Repr

inductive RefState where
  | invalid | valid | held
  deriving DecidableEq, Repr

/-- The reference speed record (Table 3-5). -/
structure RefRecord where
  value : Nat
  state : RefState
  estimate : Int
  lastUpdate : Count
  holdTimer : Timer
  deriving DecidableEq, Repr

structure SpeedBlock where
  axles : Vector AxleSpeed 6
  ref : RefRecord
  deriving DecidableEq, Repr

/-! ## Demand intake (chapter 4) -/

inductive Mode where
  | release | dynamicOnly | blended | airOnly | emergency
  deriving DecidableEq, Repr

inductive SourceState where
  | never | current | lost
  deriving DecidableEq, Repr

structure DemandPayload where
  mode : Mode
  level : Nat
  floor : Nat
  deriving DecidableEq, Repr

/-- A demand-source record (Table 4-1). -/
structure SourceRec where
  state : SourceState
  seq : Option Byte
  payload : Option DemandPayload
  stamp : Count
  timer : Timer
  deriving DecidableEq, Repr

inductive DemandOrigin where
  | source0 | source1 | penalty
  deriving DecidableEq, Repr

/-- The effective demand record (Table 4-5). -/
structure EffDemand where
  mode : Mode
  level : Nat
  floor : Nat
  origin : DemandOrigin
  latch : Bool
  deriving DecidableEq, Repr

structure DemandBlock where
  sources : Vector SourceRec 2
  eff : EffDemand
  deriving DecidableEq, Repr

/-! ## Blend engine (chapters 5 and 6) -/

/-- A truck's relief request (R118); `calm` is the request NONE. -/
inductive Relief where
  | calm | hold | vent
  deriving DecidableEq, Repr

inductive EpochKind where
  | regular | extra
  deriving DecidableEq, Repr

/-- The blend engine's fields of an axle record (R84, R92). -/
structure AxleDrive where
  target : Nat
  output : Nat
  slope : Nat
  deriving DecidableEq, Repr

/-- The blend engine's fields of a truck (R81, R92). -/
structure TruckDrive where
  target : Nat
  output : Nat
  deriving DecidableEq, Repr

structure TruckPub where
  target : Nat
  output : Nat
  relief : Relief
  deriving DecidableEq, Repr

structure AxlePub where
  target : Nat
  output : Nat
  deriving DecidableEq, Repr

/-- The totals of an epoch (R86). -/
structure Totals where
  demanded : Nat
  dynamic : Nat
  airTarget : Nat
  airAchieved : Nat
  unplaced : Nat
  dynamicAchieved : Nat
  shortfall : Nat
  deriving DecidableEq, Repr

/-- The effort publication (R86). -/
structure Publication where
  epoch : Counter
  time : Count
  kind : EpochKind
  interval : Nat
  demand : EffDemand
  fallback : Bool
  refValue : Nat
  refState : RefState
  estimate : Int
  totals : Totals
  trucks : Vector TruckPub 2
  axles : Vector AxlePub 6
  deriving DecidableEq, Repr

structure BlendBlock where
  epoch : Counter
  runEntry : Count
  timer : Timer
  axles : Vector AxleDrive 6
  trucks : Vector TruckDrive 2
  prevUnplaced : Nat
  fallback : Bool
  pub : Publication
  deriving DecidableEq, Repr

/-! ## Slide controller (chapter 7) -/

inductive SlideState where
  | normal | relief | hold | reapply
  deriving DecidableEq, Repr

/-- The slide part of an axle record (Table 7-1). -/
structure AxleSlide where
  state : SlideState
  onset : Nat
  limit : Option Nat
  ceiling : Option Nat
  slip : Nat
  holdTimer : Timer
  cycles : Nat
  deriving DecidableEq, Repr

/-- A truck slide record (section 7.1). -/
structure TruckSlide where
  request : Relief
  timer : Timer
  lockedOut : Bool
  deriving DecidableEq, Repr

structure SlideBlock where
  axles : Vector AxleSlide 6
  trucks : Vector TruckSlide 2
  deriving DecidableEq, Repr

/-! ## Order unit (chapter 8) -/

inductive NodeState where
  | absent | joining | active | degraded | lost | cutOut
  deriving DecidableEq, Repr

structure Supervision where
  state : NodeState
  goodRun : Nat
  missRun : Nat
  deriving DecidableEq, Repr

/-- The control an order carries (Table 1-6). -/
inductive Control where
  | releaseControl | holdControl
  deriving DecidableEq, Repr

/-- An exchange record (Table 8-2). -/
structure Exchange where
  awaiting : Bool
  tag : Byte
  control : Control
  value : Nat
  issued : Count
  deadline : Timer
  lastMissed : Option Byte
  replyTime : Nat
  deriving DecidableEq, Repr

/-- The nine counters of a node slot (R131). -/
structure NodeCounts where
  issued : Counter
  good : Counter
  bad : Counter
  missed : Counter
  abandoned : Counter
  stray : Counter
  late : Counter
  notSent : Counter
  releasesNotSent : Counter
  deriving DecidableEq, Repr

/-- The records of a node slot (Table 8-2). -/
structure NodeRec where
  sup : Supervision
  exch : Exchange
  achieved : Option Nat
  cap : Option Nat
  counts : NodeCounts
  deriving DecidableEq, Repr

structure OrderBlock where
  nodes : Vector NodeRec 8
  controlLoss : Timer
  deriving DecidableEq, Repr

/-! ## Condition monitor (chapter 9) -/

inductive Side where
  | unknown | low | high
  deriving DecidableEq, Repr

/-- The run state of a monitor entry (section 9.1). -/
structure RunState where
  active : Bool
  count : Nat
  side : Side
  deriving DecidableEq, Repr

/-- An event kind with its index (Table 1-14). -/
inductive EventId where
  | demandLost (d : SourceSlot)
  | emergencyEntered
  | sensorFault (i : AxleSlot)
  | refHeld
  | refInvalid
  | slidePersistent (i : AxleSlot)
  | reliefLockout (t : TruckSlot)
  | nodeDegraded (n : NodeSlot)
  | nodeLost (n : NodeSlot)
  | airUnplaced
  | fallbackSet
  | failsafeEntered
  | recordLost
  | linkOverflow (p : Port)
  | monitor (m : Fin 8)
  deriving DecidableEq, Repr

inductive Notice where
  | unsent | queued | refused
  deriving DecidableEq, Repr

/-- A pending event (Table 9-5); `unsent` is the notice NONE. -/
structure PendingEvent where
  id : EventId
  count : Nat
  stamp : Count
  epoch : Counter
  notice : Notice
  deriving DecidableEq, Repr

structure MonitorBlock where
  runs : Vector RunState 8
  events : List PendingEvent
  deriving DecidableEq, Repr

/-! ## Incident recorder (chapter 10) -/

structure TruckSnap where
  target : Nat
  output : Nat
  feedback : Option Nat
  relief : Relief
  node : NodeState
  deriving DecidableEq, Repr

structure AxleSnap where
  speed : Nat
  validity : Validity
  slide : SlideState
  limit : Option Nat
  ceiling : Option Nat
  target : Nat
  output : Nat
  achieved : Option Nat
  node : NodeState
  deriving DecidableEq, Repr

/-- A snapshot (R151). The achieved dynamic total of the publication is not part of it. -/
structure Snapshot where
  epoch : Counter
  time : Count
  kind : EpochKind
  active : Vector Bool 8
  demand : EffDemand
  fallback : Bool
  refValue : Nat
  refState : RefState
  estimate : Int
  demanded : Nat
  dynamic : Nat
  airTarget : Nat
  airAchieved : Nat
  unplaced : Nat
  shortfall : Nat
  trucks : Vector TruckSnap 2
  axles : Vector AxleSnap 6
  deriving DecidableEq, Repr

/-- A trigger cause with its index (Table 10-2). -/
inductive Cause where
  | monitor (m : Fin 8)
  | emergencyEntry
  | demandLost (d : SourceSlot)
  | nodeLost (n : NodeSlot)
  | slidePersistent (i : AxleSlot)
  | incidentLine
  | management
  | failsafeEntry
  deriving DecidableEq, Repr

structure CauseEntry where
  cause : Cause
  stamp : Count
  count : Nat
  deriving DecidableEq, Repr

inductive IncidentState where
  | opened | closedUnread | closedRead
  deriving DecidableEq, Repr

/-- A copy of the mark capture (R35). -/
structure MarkCopy where
  number : BitVec 16
  master : BitVec 48
  stamp : Count
  fresh : Bool
  deriving DecidableEq, Repr

/-- An incident record (Table 10-4). -/
structure Incident where
  number : Nat
  state : IncidentState
  openStamp : Count
  closeStamp : Option Count
  causes : List CauseEntry
  cutShort : Bool
  truncated : Bool
  moreCauses : Bool
  mark : Option MarkCopy
  lineStamp : Option Count
  snaps : List Snapshot
  remaining : Nat
  reserved : Nat
  deriving DecidableEq, Repr

/-- Ring, store and incident line. The incidents stand in opening order, which is closing order too, since at most one is
OPEN (R157). -/
structure RecorderBlock where
  ring : List Snapshot
  incidents : List Incident
  nextNumber : Nat
  lost : Nat
  lineActive : Bool
  edge : Option Count
  debounce : Timer
  deriving DecidableEq, Repr

/-! ## Management agent (chapter 11) -/

inductive PartState where
  | pass | config | run | failsafe
  deriving DecidableEq, Repr

/-- The FAILSAFE cause (section 11.2); `clear` is NONE. -/
inductive FailsafeCause where
  | clear | management | monitor | controlLost
  deriving DecidableEq, Repr

/-- A queued request (R166), with the source address its response goes to (R7). -/
structure Request where
  port : Port
  stamp : Count
  source : Byte
  kind : Byte
  id : Byte
  args : List Byte
  deriving DecidableEq, Repr

structure AgentBlock where
  part : PartState
  controlValid : Bool
  cause : FailsafeCause
  causeEntry : Nat
  lastValidation : Nat
  queue : List Request
  deriving DecidableEq, Repr

end Sys2Proof.Machine
end

