-- ==== Sys2Proof/Machine/Vec.lean ====
section
/-! DEFINITION. Vectors of the part's fixed numbers (two trucks or sources, six axles, eight nodes or entries) written by
giving the value at every slot, and the slots in slot order. -/

namespace Sys2Proof.Machine

/-- Two values, by slot. -/
def vec2 {α : Type} (f : Fin 2 → α) : Vector α 2 := #v[f 0, f 1]

/-- Six values, by axle slot. -/
def vec6 {α : Type} (f : Fin 6 → α) : Vector α 6 := #v[f 0, f 1, f 2, f 3, f 4, f 5]

/-- Eight values, by node slot or monitor entry. -/
def vec8 {α : Type} (f : Fin 8 → α) : Vector α 8 := #v[f 0, f 1, f 2, f 3, f 4, f 5, f 6, f 7]

/-- The axle slots in slot order. -/
def axleSlots : List AxleSlot := [0, 1, 2, 3, 4, 5]

/-- The node slots in slot order. -/
def nodeSlots : List NodeSlot := [0, 1, 2, 3, 4, 5, 6, 7]

/-- The monitor entries in entry order. -/
def monitorEntries : List (Fin 8) := [0, 1, 2, 3, 4, 5, 6, 7]

/-- The truck of an axle: slots 0 to 2 belong to truck 1, slots 3 to 5 to truck 2 (00_scope section 6). -/
def truckOf (i : AxleSlot) : TruckSlot := if i.val < 3 then 0 else 1

/-- The node slot of an axle's inverter (00_scope section 6). -/
def inverterOf (i : AxleSlot) : NodeSlot := ⟨i.val, by omega⟩

/-- The node slot of a truck's valve unit (00_scope section 6). -/
def valveOf (t : TruckSlot) : NodeSlot := ⟨t.val + 6, by omega⟩

end Sys2Proof.Machine
end

