-- ==== Sys2Proof/Machine/PowerOn.lean ====
section
/-! DEFINITION. The value of each block and each parameter table at power-on (R175 and the chapters it refers to). The values
that soft reset or entry into RUN share are taken from here by Machine/Resets.lean and Machine/Agent.lean. -/

namespace Sys2Proof.Machine

/-! ## Parameter tables -/

/-- Invalid at power-on (section 1.5). DESIGN CHOICE, note 13: the other fields hold the least value of their ranges. -/
def ClassEntry.powerOn : ClassEntry :=
  { valid := false, source := 1, kind := 0, port := .a, action := .forward, role := .noRole }

def AxleEntry.powerOn : AxleEntry := { enabled := true, pulse := 31416 }

def NodeEntry.powerOn : NodeEntry :=
  { present := false, address := 0, join := 4, degrade := 3, lost := 10, response := 8 }

def CurveTable.powerOn : CurveTable :=
  { points := #v[⟨0, 0⟩, ⟨500, 700⟩, ⟨6000, 700⟩, ⟨12000, 250⟩, ⟨0, 0⟩, ⟨0, 0⟩, ⟨0, 0⟩, ⟨0, 0⟩, ⟨0, 0⟩, ⟨0, 0⟩, ⟨0, 0⟩,
      ⟨0, 0⟩, ⟨0, 0⟩, ⟨0, 0⟩, ⟨0, 0⟩, ⟨0, 0⟩]
    count := 4 }

def BlendSet.powerOn : BlendSet :=
  { fullService := 4000, axleLimit := 700, period := 20, airLead := 1500, degraded := 128, dynInEmergency := false
    penalty := 700, demandLoss := 400, protection := false, controlLoss := 1000 }

def TruckEntry.powerOn : TruckEntry :=
  { airPresent := true, dead := 35, gain := 480, maximum := 420, emergency := 400 }

def RampSet.powerOn : RampSet :=
  { application := 600, release := 1200, jerk := 1500, airApplication := 150, airRelease := 300 }

def SpeedSet.powerOn : SpeedSet :=
  { ageLimit := 100, decelLimit := 400, accelLimit := 200, holdTime := 1000, trendBand := 50 }

def SlideSet.powerOn : SlideSet :=
  { minSpeed := 300, slipOnset := 60, slipRelease := 25, absoluteOnset := 250, decelOnset := 1200, onsetCount := 2
    reliefFactor := 160, ceilingFactor := 224, holdTime := 150, reapplyRate := 300, recoveryRate := 50, cycleLimit := 8
    lockoutTime := 3000 }

def MonEntry.powerOn : MonEntry :=
  { enabled := false, source := .refSpeed, condition := .above, threshold := 0, hysteresis := 0, persistence := 1
    event := false, record := false, airFallback := false, failsafe := false }

def RecorderSet.powerOn : RecorderSet :=
  { depth := 16, post := 32, maximum := 96, extension := true, policy := .keepUnread, keepTime := 600, causeMask := 63
    debounce := 10 }

def TimeSet.powerOn : TimeSet := { policy := .holdUntilRead, hold := 2000 }

def LinkSet.powerOn : LinkSet := { noticeAddress := 0, noticePort := .a }

def Tables.powerOn : Tables :=
  { classify := Vector.replicate 32 ClassEntry.powerOn
    axle := vec6 fun _ => AxleEntry.powerOn
    node := vec8 fun _ => NodeEntry.powerOn
    curve := CurveTable.powerOn
    blend := BlendSet.powerOn
    truck := vec2 fun _ => TruckEntry.powerOn
    ramp := RampSet.powerOn
    speed := SpeedSet.powerOn
    slide := SlideSet.powerOn
    monitor := vec8 fun _ => MonEntry.powerOn
    recorder := RecorderSet.powerOn
    time := TimeSet.powerOn
    link := LinkSet.powerOn }

/-! ## Blocks -/

/-- A port at power-on (R17 to R22). -/
def PortState.powerOn : PortState :=
  { rx := none, forward := [], originated := [], line := .idle, run := 0
    good := 0, badCheck := 0, badForm := 0, overflow := 0, transmitted := 0 }

/-- Own address E0 hex plus the strap value (R1); counters and transmit sequence counter 0 (R7, R21). -/
def LinkBlock.powerOn (straps : BitVec 4) : LinkBlock :=
  { own := 0xE0#8 + straps.setWidth 8
    portA := PortState.powerOn, portB := PortState.powerOn, txSeq := 0
    unclaimed := 0, demandRefused := 0, sampleRefused := 0, reportsRefused := 0, responsesDropped := 0 }

/-- The mark capture at power-on and at soft reset (R35). -/
def MarkCapture.powerOn : MarkCapture := { state := .empty, number := 0, master := 0, stamp := 0, discards := 0 }

/-- R23, R26, R35. -/
def TimeBlock.powerOn : TimeBlock :=
  { count := 0, value := 0, sense := .advance, accumulator := 0, mark := MarkCapture.powerOn }

/-- The speed part of an axle record at power-on, at soft reset and at a write of its AXLE entry (R36, R37). -/
def AxleSpeed.rest (e : AxleEntry) : AxleSpeed :=
  { enabled := e.enabled, pulse := e.pulse, speed := 0, stamp := 0, prevStamp := 0, decel := 0, trend := .flat
    lastTrend := none, validity := .unknown, ageTimer := none }

/-- The reference speed record at power-on and at soft reset (R46). -/
def RefRecord.powerOn : RefRecord := { value := 0, state := .invalid, estimate := 0, lastUpdate := 0, holdTimer := none }

/-- R36, R46, with the AXLE table in force. -/
def SpeedBlock.start (t : Tables) : SpeedBlock :=
  { axles := vec6 fun i => AxleSpeed.rest t.axle[i], ref := RefRecord.powerOn }

/-- A demand-source record at power-on and at soft reset (R54). -/
def SourceRec.powerOn : SourceRec := { state := .never, seq := none, payload := none, stamp := 0, timer := none }

/-- The effective demand at power-on, at soft reset and at RUN entry (R54, R64). -/
def EffDemand.powerOn : EffDemand := { mode := .release, level := 0, floor := 0, origin := .source0, latch := false }

/-- R54. -/
def DemandBlock.powerOn : DemandBlock := { sources := vec2 fun _ => SourceRec.powerOn, eff := EffDemand.powerOn }

def AxleDrive.zero : AxleDrive := { target := 0, output := 0, slope := 0 }

def TruckDrive.zero : TruckDrive := { target := 0, output := 0 }

def Totals.zero : Totals :=
  { demanded := 0, dynamic := 0, airTarget := 0, airAchieved := 0, unplaced := 0, dynamicAchieved := 0, shortfall := 0 }

/-- The publication that no epoch has made: epoch number 0, REGULAR, every total, target and output 0 (R90). At power-on and
at soft reset the time is 0 and the reference fields those of `RefRecord.powerOn`; at RUN entry they are as they stand. -/
def Publication.initial (time : Count) (period : Nat) (ref : RefRecord) : Publication :=
  { epoch := 0, time := time, kind := .regular, interval := period, demand := EffDemand.powerOn, fallback := false
    refValue := ref.value, refState := ref.state, estimate := ref.estimate, totals := Totals.zero
    trucks := vec2 fun _ => { target := 0, output := 0, relief := .calm }
    axles := vec6 fun _ => { target := 0, output := 0 } }

/-- The blend engine at power-on and at soft reset (R90, R103), with the BLEND set in force. DESIGN CHOICE, note 18: the RUN
entry time is 0. -/
def BlendBlock.start (t : Tables) : BlendBlock :=
  { epoch := 0, runEntry := 0, timer := none
    axles := vec6 fun _ => AxleDrive.zero, trucks := vec2 fun _ => TruckDrive.zero
    prevUnplaced := 0, fallback := false, pub := Publication.initial 0 t.blend.period RefRecord.powerOn }

/-- The slide part of an axle record at power-on, soft reset, RUN entry and on leaving RUN (R105). -/
def AxleSlide.powerOn : AxleSlide :=
  { state := .normal, onset := 0, limit := none, ceiling := none, slip := 0, holdTimer := none, cycles := 0 }

def TruckSlide.powerOn : TruckSlide := { request := .calm, timer := none, lockedOut := false }

/-- R105. -/
def SlideBlock.powerOn : SlideBlock :=
  { axles := vec6 fun _ => AxleSlide.powerOn, trucks := vec2 fun _ => TruckSlide.powerOn }

def NodeCounts.zero : NodeCounts :=
  { issued := 0, good := 0, bad := 0, missed := 0, abandoned := 0, stray := 0, late := 0, notSent := 0, releasesNotSent := 0 }

def Exchange.powerOn : Exchange :=
  { awaiting := false, tag := 0, control := .releaseControl, value := 0, issued := 0, deadline := none, lastMissed := none
    replyTime := 0 }

/-- The records of a node slot with every field at the reset value of Table 8-2 and the given supervision state. -/
def NodeRec.fresh (st : NodeState) : NodeRec :=
  { sup := { state := st, goodRun := 0, missRun := 0 }, exch := Exchange.powerOn, achieved := none, cap := none
    counts := NodeCounts.zero }

/-- R123, R136. -/
def OrderBlock.powerOn : OrderBlock := { nodes := vec8 fun _ => NodeRec.fresh .absent, controlLoss := none }

def RunState.powerOn : RunState := { active := false, count := 0, side := .unknown }

/-- R145, R146. -/
def MonitorBlock.powerOn : MonitorBlock := { runs := vec8 fun _ => RunState.powerOn, events := [] }

/-- R158, R164: the level is the one the line has at power-on. -/
def RecorderBlock.powerOn (lineActive : Bool) : RecorderBlock :=
  { ring := [], incidents := [], nextNumber := 1, lost := 0, lineActive := lineActive, edge := none, debounce := none }

/-- R175. -/
def AgentBlock.powerOn : AgentBlock :=
  { part := .pass, controlValid := false, cause := .clear, causeEntry := 0, lastValidation := 0, queue := [] }

end Sys2Proof.Machine
end

