-- ==== Sys2Proof/Machine/State.lean ====
section
/-! DEFINITION. The state of the part: its ten blocks, its parameter tables, the queue of commands waiting, and the counter
of the free values taken. -/

namespace Sys2Proof.Machine

/-- The part never stops with a fault: a bad frame is counted, a bad request is answered with a status, and FAILSAFE is a
state (note 25). No command raises a fault, so there is none; this is safe, since a fault could only shut behaviour out. -/
inductive Fault : Type
  deriving DecidableEq, Repr

/-- Why a command has no outcome. -/
inductive Refusal where
  /-- Raised by an arm of exec whose command has no meaning yet; safe. No arm of this model raises it. -/
  | notModelled (mnemonic : String)
  deriving DecidableEq, Repr

/-- The state of the part. -/
structure State where
  link : LinkBlock
  time : TimeBlock
  speed : SpeedBlock
  demand : DemandBlock
  blend : BlendBlock
  slide : SlideBlock
  order : OrderBlock
  monitor : MonitorBlock
  recorder : RecorderBlock
  agent : AgentBlock
  tables : Tables
  /-- the commands waiting, first in, first out (the model's own) -/
  pending : List Instr
  /-- how many free values have been taken (the model's own, note 22) -/
  draws : Nat
  deriving DecidableEq, Repr

/-- The part right after a power-on reset (R175) with the given strap levels and incident line level. -/
def State.powerOn (straps : BitVec 4) (lineActive : Bool) : State :=
  { link := LinkBlock.powerOn straps
    time := TimeBlock.powerOn
    speed := SpeedBlock.start Tables.powerOn
    demand := DemandBlock.powerOn
    blend := BlendBlock.start Tables.powerOn
    slide := SlideBlock.powerOn
    order := OrderBlock.powerOn
    monitor := MonitorBlock.powerOn
    recorder := RecorderBlock.powerOn lineActive
    agent := AgentBlock.powerOn
    tables := Tables.powerOn
    pending := []
    draws := 0 }

/-- The machine right after reset: straps 0 and the incident line INACTIVE (DESIGN CHOICE, note 1: both are pins). -/
def State.reset : State := State.powerOn 0 false

end Sys2Proof.Machine
end

