-- ==== Sys2Proof/Machine/Ops.lean ====
section
/-! DEFINITION. Named operations: numbers as bytes, times and timers on the reference count, access to the records of a port,
an axle, a truck, a source or a node, and the taking of a free value. -/

namespace Sys2Proof.Machine

/-! ## Numbers as bytes (R6: most significant byte first) -/

/-- The low `n` bytes of a number, most significant first. -/
def toBytes : Nat → Nat → List Byte
  | 0, _ => []
  | n + 1, v => BitVec.ofNat 8 (v / 256 ^ n) :: toBytes n v

/-- A number from its bytes, most significant first. -/
def ofBytes (bs : List Byte) : Nat := bs.foldl (fun acc b => acc * 256 + b.toNat) 0

/-- A number as two bytes, two's complement. -/
def toSigned2 (v : Int) : List Byte := toBytes 2 (v % 65536).toNat

/-- A 16-bit number read as two's complement. -/
def ofSigned16 (n : Nat) : Int := if n < 32768 then n else (n : Int) - 65536

/-- One byte holding a small code. -/
def code (n : Nat) : Byte := BitVec.ofNat 8 n

/-- NO/YES, OFF/ON, clear/set and absent/present are coded 0 and 1 (Table 11-3's encodings). -/
def flag (b : Bool) : Byte := if b then 1 else 0

/-- An effort, pressure or limit of two bytes; absent is sent as 65535 (R159, R170). -/
def optional2 (v : Option Nat) : List Byte := toBytes 2 (v.getD 65535)

/-- A stamp of six bytes; absent is sent as 0 (R159, R170). -/
def stampBytes (c : Count) : List Byte := toBytes 6 c.toNat

/-! ## Times and timers (R24, R25) -/

/-- The elapsed time from a stamp to a later count or stamp, in µs, as a signed difference (R24). -/
def elapsed (s t : Count) : Int := (t - s).toInt

/-- A stamp plus a number of microseconds, modulo 2^48 (R25). -/
def Count.plus (c : Count) (us : Nat) : Count := c + BitVec.ofNat 48 us

/-- A timer started from a point, with a duration in milliseconds (R24, R25). -/
def startTimer (start : Count) (ms : Nat) : Timer := some (Count.plus start (ms * 1000))

/-- The timer is running and the elapsed time from its expiry to the count is 0 or more (R25). -/
def Timer.due (t : Timer) (now : Count) : Bool :=
  match t with
  | none => false
  | some e => decide (0 ≤ elapsed e now)

/-- The present reference count. -/
def State.now (s : State) : Count := s.time.count

/-- The part is in RUN. -/
def State.running (s : State) : Bool := s.agent.part == .run

/-! ## Records by slot -/

/-- A port. -/
def LinkBlock.port (l : LinkBlock) (p : Port) : PortState :=
  match p with
  | .a => l.portA
  | .b => l.portB

/-- A port replaced. -/
def LinkBlock.setPort (l : LinkBlock) (p : Port) (ps : PortState) : LinkBlock :=
  match p with
  | .a => { l with portA := ps }
  | .b => { l with portB := ps }

/-- The port on the other segment. -/
def otherPort : Port → Port
  | .a => .b
  | .b => .a

def State.port (s : State) (p : Port) : PortState := s.link.port p

/-- A change of one port. -/
def State.onPort (s : State) (p : Port) (f : PortState → PortState) : State :=
  { s with link := s.link.setPort p (f (s.port p)) }

/-- A change of one axle record's speed part. -/
def State.onAxleSpeed (s : State) (i : AxleSlot) (f : AxleSpeed → AxleSpeed) : State :=
  { s with speed := { s.speed with axles := s.speed.axles.set i (f s.speed.axles[i]) } }

/-- A change of one axle record's slide part. -/
def State.onAxleSlide (s : State) (i : AxleSlot) (f : AxleSlide → AxleSlide) : State :=
  { s with slide := { s.slide with axles := s.slide.axles.set i (f s.slide.axles[i]) } }

/-- A change of one truck slide record. -/
def State.onTruckSlide (s : State) (t : TruckSlot) (f : TruckSlide → TruckSlide) : State :=
  { s with slide := { s.slide with trucks := s.slide.trucks.set t (f s.slide.trucks[t]) } }

/-- A change of one demand-source record. -/
def State.onSource (s : State) (d : SourceSlot) (f : SourceRec → SourceRec) : State :=
  { s with demand := { s.demand with sources := s.demand.sources.set d (f s.demand.sources[d]) } }

/-- The records of a node slot. -/
def State.node (s : State) (n : NodeSlot) : NodeRec := s.order.nodes[n]

/-- A change of one node slot's records. -/
def State.onNode (s : State) (n : NodeSlot) (f : NodeRec → NodeRec) : State :=
  { s with order := { s.order with nodes := s.order.nodes.set n (f (s.node n)) } }

/-- A change of one monitor entry's run state. -/
def State.setRun (s : State) (m : Fin 8) (r : RunState) : State :=
  { s with monitor := { s.monitor with runs := s.monitor.runs.set m r } }

/-- A change of the reference speed record. -/
def State.setRef (s : State) (r : RefRecord) : State := { s with speed := { s.speed with ref := r } }

/-- A change of the incident recorder. -/
def State.setRecorder (s : State) (r : RecorderBlock) : State := { s with recorder := r }

/-- One more than a count that stays at `top` once there (R32, R132, R146, R157). -/
def bump (top n : Nat) : Nat := if n < top then n + 1 else top

/-! ## Free values (note 22) -/

/-- The number of this draw is used up. -/
def State.drawn (s : State) : State := { s with draws := s.draws + 1 }

/-- Three reactions in one of their six orders. -/
def Order3.run (o : Order3) (f g h : State → State) (s : State) : State :=
  match o with
  | .abc => h (g (f s))
  | .acb => g (h (f s))
  | .bac => h (f (g s))
  | .bca => f (h (g s))
  | .cab => g (f (h s))
  | .cba => f (g (h s))

/-- Two reactions in one of their two orders. -/
def flipRun (firstFirst : Bool) (f g : State → State) (s : State) : State :=
  if firstFirst then g (f s) else f (g s)

/-- Three reactions in an order the part is free to take. -/
def State.unordered3 (s : State) (f g h : State → State) : State := Order3.run (Config.freeOrder s.draws) f g h s.drawn

/-- Two reactions in an order the part is free to take. -/
def State.unordered2 (s : State) (f g : State → State) : State := flipRun (Config.freeFlip s.draws) f g s.drawn

end Sys2Proof.Machine
end

