-- ==== Sys2Proof/Machine/Operands.lean ====
section
/-! DEFINITION. Operand forms: the parameter tables as they are carried in READ_ENTRY and WRITE_ENTRY (Table 11-3, section 9.1),
their ranges, and the combinations their owning chapters refuse (R10, R122, R140, R147). -/

namespace Sys2Proof.Machine

/-! ## Table entries by table id and index -/

/-- One entry of one parameter table (Table 11-3). -/
inductive TableRef where
  | classify (i : Fin 32)
  | axle (i : AxleSlot)
  | node (n : NodeSlot)
  | curvePoint (k : Fin 16)
  | curveCount
  | blend
  | truck (t : TruckSlot)
  | ramp
  | speed
  | slide
  | monitor (m : Fin 8)
  | recorder
  | time
  | link
  deriving DecidableEq, Repr

/-- An index below a table's number of entries. -/
def indexIn {α : Type} (n : Nat) (i : Nat) (f : Fin n → α) : Option α := if h : i < n then some (f ⟨i, h⟩) else none

/-- The entry that a table id and an entry index name, none when there is no such table or entry (R169). -/
def tableRef (table index : Nat) : Option TableRef :=
  match table with
  | 0x01 => indexIn 32 index .classify
  | 0x02 => indexIn 6 index .axle
  | 0x03 => indexIn 8 index .node
  | 0x04 => if index = 16 then some .curveCount else indexIn 16 index .curvePoint
  | 0x05 => indexIn 1 index fun _ => .blend
  | 0x06 => indexIn 2 index .truck
  | 0x07 => indexIn 1 index fun _ => .ramp
  | 0x08 => indexIn 1 index fun _ => .speed
  | 0x09 => indexIn 1 index fun _ => .slide
  | 0x0A => indexIn 8 index .monitor
  | 0x0B => indexIn 1 index fun _ => .recorder
  | 0x0C => indexIn 1 index fun _ => .time
  | 0x0D => indexIn 1 index fun _ => .link
  | _ => none

/-! ## Fields: ranges, widths, bytes -/

/-- The range of a field as it is carried. -/
structure Field where
  lo : Nat
  hi : Nat
  deriving DecidableEq, Repr

/-- A NO/YES or OFF/ON field. -/
def boolField : Field := ⟨0, 1⟩

/-- A number takes 1 byte when its range ends at or below 255, and 2 bytes otherwise (Table 11-3's encodings). -/
def Field.width (f : Field) : Nat := if f.hi ≤ 255 then 1 else 2

/-- The fields of an entry, in the order they are carried. Where a field's values are coded (enumerations, the monitor's
threshold in two's complement), the range is the code's. -/
def fieldsOf : TableRef → List Field
  | .classify _ => [boolField, ⟨1, 255⟩, ⟨0, 255⟩, ⟨0, 2⟩, ⟨0, 3⟩, ⟨0, 5⟩, ⟨0, 255⟩, ⟨0, 255⟩]
  | .axle _ => [boolField, ⟨10000, 60000⟩]
  | .node _ => [boolField, ⟨0, 0xEF⟩, ⟨1, 16⟩, ⟨1, 16⟩, ⟨2, 64⟩, ⟨1, 99⟩]
  | .curvePoint _ => [⟨0, 20000⟩, ⟨0, 1500⟩]
  | .curveCount => [⟨2, 16⟩]
  | .blend => [⟨100, 8000⟩, ⟨0, 1500⟩, ⟨5, 100⟩, ⟨0, 4000⟩, ⟨0, 256⟩, boolField, ⟨0, 1000⟩, ⟨100, 2000⟩, boolField, ⟨100, 5000⟩]
  | .truck _ => [boolField, ⟨0, 100⟩, ⟨1, 1023⟩, ⟨100, 500⟩, ⟨100, 500⟩]
  | .ramp => [⟨1, 20000⟩, ⟨1, 20000⟩, ⟨0, 50000⟩, ⟨1, 2000⟩, ⟨1, 2000⟩]
  | .speed => [⟨10, 1000⟩, ⟨50, 2000⟩, ⟨50, 2000⟩, ⟨50, 5000⟩, ⟨0, 2000⟩]
  | .slide => [⟨0, 2000⟩, ⟨10, 500⟩, ⟨0, 500⟩, ⟨50, 2000⟩, ⟨100, 10000⟩, ⟨1, 4⟩, ⟨0, 255⟩, ⟨0, 256⟩, ⟨20, 2000⟩, ⟨1, 20000⟩,
      ⟨1, 20000⟩, ⟨1, 32⟩, ⟨200, 10000⟩]
  | .monitor _ => [boolField, ⟨1, 10⟩, ⟨0, 255⟩, ⟨0, 4⟩, ⟨0, 65535⟩, ⟨0, 65535⟩, ⟨1, 16⟩, ⟨0, 15⟩]
  | .recorder => [⟨0, 32⟩, ⟨1, 64⟩, ⟨1, 128⟩, boolField, ⟨0, 2⟩, ⟨1, 3600⟩, ⟨0, 63⟩, ⟨1, 100⟩]
  | .time => [⟨0, 2⟩, ⟨100, 60000⟩]
  | .link => [⟨0, 255⟩, ⟨0, 1⟩]

/-- The number of data bytes of an entry (Table 11-3). -/
def entryLength (r : TableRef) : Nat := ((fieldsOf r).map Field.width).sum

/-- The field values carried by data bytes, by the fields' widths. -/
def readFields : List Field → List Byte → List Nat
  | [], _ => []
  | f :: fs, bs => ofBytes (bs.take f.width) :: readFields fs (bs.drop f.width)

/-- The data bytes that carry field values. -/
def writeFields : List Field → List Nat → List Byte
  | f :: fs, v :: vs => toBytes f.width v ++ writeFields fs vs
  | _, _ => []

/-- Every value lies in its field's range, and there is one for each field. -/
def inRanges : List Field → List Nat → Bool
  | [], [] => true
  | f :: fs, v :: vs => decide (f.lo ≤ v) && decide (v ≤ f.hi) && inRanges fs vs
  | _, _ => false

/-- The value of field `k`. -/
def fieldAt (vs : List Nat) (k : Nat) : Nat := vs.getD k 0

/-- A NO/YES field. -/
def yes (vs : List Nat) (k : Nat) : Bool := fieldAt vs k == 1

/-! ## Enumeration codes -/

def PortSel.code : PortSel → Nat
  | .a => 0 | .b => 1 | .either => 2

def PortSel.ofCode : Nat → PortSel
  | 0 => .a | 1 => .b | _ => .either

def Action.code : Action → Nat
  | .forward => 0 | .observe => 1 | .consume => 2 | .drop => 3

def Action.ofCode : Nat → Action
  | 0 => .forward | 1 => .observe | 2 => .consume | _ => .drop

/-- Role code and role argument (Table 1-16: two bytes, the first axle slot or the node slot, then the last axle slot). -/
def Role.fields : Role → List Nat
  | .noRole => [0, 0, 0]
  | .demand d => [d.val + 1, 0, 0]
  | .axleSample first last => [3, first.val, last.val]
  | .report n => [4, n.val, 0]
  | .timeMark => [5, 0, 0]

/-- A role from its code and argument; none when the argument does not suit the role (Table 1-16). -/
def Role.ofFields (role arg1 arg2 : Nat) : Option Role :=
  match role with
  | 0 => if arg1 = 0 ∧ arg2 = 0 then some .noRole else none
  | 1 => if arg1 = 0 ∧ arg2 = 0 then some (.demand 0) else none
  | 2 => if arg1 = 0 ∧ arg2 = 0 then some (.demand 1) else none
  | 3 => if h : arg1 ≤ arg2 ∧ arg2 < 6 then some (.axleSample ⟨arg1, by omega⟩ ⟨arg2, h.2⟩) else none
  | 4 => if h : arg1 < 8 ∧ arg2 = 0 then some (.report ⟨arg1, h.1⟩) else none
  | 5 => if arg1 = 0 ∧ arg2 = 0 then some .timeMark else none
  | _ => none

/-- The kind a role may be paired with (R10); role NONE goes with any kind. -/
def roleKindFits (r : Role) (kind : Nat) : Bool :=
  match r with
  | .noRole => true
  | .demand _ => kind == 0x11
  | .axleSample _ _ => kind == 0x21
  | .report _ => kind == 0x32
  | .timeMark => kind == 0x41

/-- Source kind code and index (Table 9-2). -/
def MonSource.fields : MonSource → List Nat
  | .refSpeed => [0x01, 0] | .decelEstimate => [0x02, 0] | .demandedEffort => [0x03, 0] | .dynamicTarget => [0x04, 0]
  | .dynamicAchieved => [0x05, 0] | .airAchieved => [0x06, 0] | .shortfall => [0x07, 0] | .airUnplaced => [0x08, 0]
  | .axleSlip i => [0x09, i.val]
  | .truckPressure t => [0x0A, t.val + 1]

/-- A monitor source from its kind code and index; none when the index does not suit the kind (R140). -/
def MonSource.ofFields (kind index : Nat) : Option MonSource :=
  match kind with
  | 0x01 => if index = 0 then some .refSpeed else none
  | 0x02 => if index = 0 then some .decelEstimate else none
  | 0x03 => if index = 0 then some .demandedEffort else none
  | 0x04 => if index = 0 then some .dynamicTarget else none
  | 0x05 => if index = 0 then some .dynamicAchieved else none
  | 0x06 => if index = 0 then some .airAchieved else none
  | 0x07 => if index = 0 then some .shortfall else none
  | 0x08 => if index = 0 then some .airUnplaced else none
  | 0x09 => if h : index < 6 then some (.axleSlip ⟨index, h⟩) else none
  | 0x0A => if index = 1 then some (.truckPressure 0) else if index = 2 then some (.truckPressure 1) else none
  | _ => none

def MonCondition.code : MonCondition → Nat
  | .above => 0 | .below => 1 | .crossUp => 2 | .crossDown => 3 | .crossAny => 4

def MonCondition.ofCode : Nat → MonCondition
  | 0 => .above | 1 => .below | 2 => .crossUp | 3 => .crossDown | _ => .crossAny

def StorePolicy.code : StorePolicy → Nat
  | .overwriteOldest => 0 | .keepUnread => 1 | .keepTimed => 2

def StorePolicy.ofCode : Nat → StorePolicy
  | 0 => .overwriteOldest | 1 => .keepUnread | _ => .keepTimed

def MarkPolicy.code : MarkPolicy → Nat
  | .overwrite => 0 | .holdUntilRead => 1 | .holdWithExpiry => 2

def MarkPolicy.ofCode : Nat → MarkPolicy
  | 0 => .overwrite | 1 => .holdUntilRead | _ => .holdWithExpiry

def portCode : Port → Nat
  | .a => 0 | .b => 1

def portOfCode : Nat → Port
  | 0 => .a | _ => .b

/-! ## Entries as field values -/

def ClassEntry.fields (e : ClassEntry) : List Nat :=
  [e.valid.toNat, e.source.toNat, e.kind.toNat, e.port.code, e.action.code] ++ e.role.fields

/-- A classification entry, unless its role argument does not suit its role or its role is not paired with the kind it may be
paired with (R10). -/
def ClassEntry.ofFields (vs : List Nat) : Option ClassEntry :=
  match Role.ofFields (fieldAt vs 5) (fieldAt vs 6) (fieldAt vs 7) with
  | none => none
  | some r =>
    if roleKindFits r (fieldAt vs 2) then
      some { valid := yes vs 0, source := code (fieldAt vs 1), kind := code (fieldAt vs 2)
             port := PortSel.ofCode (fieldAt vs 3), action := Action.ofCode (fieldAt vs 4), role := r }
    else none

def NodeEntry.fields (e : NodeEntry) : List Nat :=
  [e.present.toNat, e.address.toNat, e.join, e.degrade, e.lost, e.response]

/-- A node entry, unless it is present with address 00 or the own address (R122). -/
def NodeEntry.ofFields (own : Byte) (vs : List Nat) : Option NodeEntry :=
  if yes vs 0 ∧ (code (fieldAt vs 1) = 0 ∨ code (fieldAt vs 1) = own) then none
  else some { present := yes vs 0, address := code (fieldAt vs 1), join := fieldAt vs 2, degrade := fieldAt vs 3
              lost := fieldAt vs 4, response := fieldAt vs 5 }

def BlendSet.fields (e : BlendSet) : List Nat :=
  [e.fullService, e.axleLimit, e.period, e.airLead, e.degraded, e.dynInEmergency.toNat, e.penalty, e.demandLoss,
   e.protection.toNat, e.controlLoss]

def BlendSet.ofFields (vs : List Nat) : BlendSet :=
  { fullService := fieldAt vs 0, axleLimit := fieldAt vs 1, period := fieldAt vs 2, airLead := fieldAt vs 3
    degraded := fieldAt vs 4, dynInEmergency := yes vs 5, penalty := fieldAt vs 6, demandLoss := fieldAt vs 7
    protection := yes vs 8, controlLoss := fieldAt vs 9 }

def SlideSet.fields (e : SlideSet) : List Nat :=
  [e.minSpeed, e.slipOnset, e.slipRelease, e.absoluteOnset, e.decelOnset, e.onsetCount, e.reliefFactor, e.ceilingFactor,
   e.holdTime, e.reapplyRate, e.recoveryRate, e.cycleLimit, e.lockoutTime]

def SlideSet.ofFields (vs : List Nat) : SlideSet :=
  { minSpeed := fieldAt vs 0, slipOnset := fieldAt vs 1, slipRelease := fieldAt vs 2, absoluteOnset := fieldAt vs 3
    decelOnset := fieldAt vs 4, onsetCount := fieldAt vs 5, reliefFactor := fieldAt vs 6, ceilingFactor := fieldAt vs 7
    holdTime := fieldAt vs 8, reapplyRate := fieldAt vs 9, recoveryRate := fieldAt vs 10, cycleLimit := fieldAt vs 11
    lockoutTime := fieldAt vs 12 }

/-- The action set is the sum of EVENT 1, RECORD 2, AIR_FALLBACK 4 and FAILSAFE 8 (section 9.1). -/
def MonEntry.fields (e : MonEntry) : List Nat :=
  e.enabled.toNat :: e.source.fields ++
    [e.condition.code, (e.threshold % 65536).toNat, e.hysteresis, e.persistence,
     e.event.toNat + 2 * e.record.toNat + 4 * e.airFallback.toNat + 8 * e.failsafe.toNat]

/-- A monitor entry, unless its source index does not suit its source kind (R140). -/
def MonEntry.ofFields (vs : List Nat) : Option MonEntry :=
  match MonSource.ofFields (fieldAt vs 1) (fieldAt vs 2) with
  | none => none
  | some src =>
    some { enabled := yes vs 0, source := src, condition := MonCondition.ofCode (fieldAt vs 3)
           threshold := ofSigned16 (fieldAt vs 4), hysteresis := fieldAt vs 5, persistence := fieldAt vs 6
           event := fieldAt vs 7 % 2 == 1, record := fieldAt vs 7 / 2 % 2 == 1
           airFallback := fieldAt vs 7 / 4 % 2 == 1, failsafe := fieldAt vs 7 / 8 % 2 == 1 }

def RecorderSet.fields (e : RecorderSet) : List Nat :=
  [e.depth, e.post, e.maximum, e.extension.toNat, e.policy.code, e.keepTime, e.causeMask, e.debounce]

def RecorderSet.ofFields (vs : List Nat) : RecorderSet :=
  { depth := fieldAt vs 0, post := fieldAt vs 1, maximum := fieldAt vs 2, extension := yes vs 3
    policy := StorePolicy.ofCode (fieldAt vs 4), keepTime := fieldAt vs 5, causeMask := fieldAt vs 6
    debounce := fieldAt vs 7 }

/-- The field values of an entry as stored. -/
def Tables.entryFields (t : Tables) : TableRef → List Nat
  | .classify i => t.classify[i].fields
  | .axle i => [t.axle[i].enabled.toNat, t.axle[i].pulse]
  | .node n => t.node[n].fields
  | .curvePoint k => [t.curve.points[k].speed, t.curve.points[k].effort]
  | .curveCount => [t.curve.count]
  | .blend => t.blend.fields
  | .truck k => [t.truck[k].airPresent.toNat, t.truck[k].dead, t.truck[k].gain, t.truck[k].maximum, t.truck[k].emergency]
  | .ramp => [t.ramp.application, t.ramp.release, t.ramp.jerk, t.ramp.airApplication, t.ramp.airRelease]
  | .speed => [t.speed.ageLimit, t.speed.decelLimit, t.speed.accelLimit, t.speed.holdTime, t.speed.trendBand]
  | .slide => t.slide.fields
  | .monitor m => t.monitor[m].fields
  | .recorder => t.recorder.fields
  | .time => [t.time.policy.code, t.time.hold]
  | .link => [t.link.noticeAddress.toNat, portCode t.link.noticePort]

/-- The tables with an entry's fields written, or none when the owning chapter refuses the combination (R169, check 5). The
values lie in their ranges. -/
def Tables.withFields (own : Byte) (t : Tables) (r : TableRef) (vs : List Nat) : Option Tables :=
  match r with
  | .classify i => (ClassEntry.ofFields vs).map fun e => { t with classify := t.classify.set i e }
  | .axle i => some { t with axle := t.axle.set i ⟨yes vs 0, fieldAt vs 1⟩ }
  | .node n => (NodeEntry.ofFields own vs).map fun e => { t with node := t.node.set n e }
  | .curvePoint k => some { t with curve := { t.curve with points := t.curve.points.set k ⟨fieldAt vs 0, fieldAt vs 1⟩ } }
  | .curveCount => some { t with curve := { t.curve with count := fieldAt vs 0 } }
  | .blend => some { t with blend := BlendSet.ofFields vs }
  | .truck k =>
    some { t with truck := t.truck.set k ⟨yes vs 0, fieldAt vs 1, fieldAt vs 2, fieldAt vs 3, fieldAt vs 4⟩ }
  | .ramp => some { t with ramp := ⟨fieldAt vs 0, fieldAt vs 1, fieldAt vs 2, fieldAt vs 3, fieldAt vs 4⟩ }
  | .speed => some { t with speed := ⟨fieldAt vs 0, fieldAt vs 1, fieldAt vs 2, fieldAt vs 3, fieldAt vs 4⟩ }
  | .slide => some { t with slide := SlideSet.ofFields vs }
  | .monitor m => (MonEntry.ofFields vs).map fun e => { t with monitor := t.monitor.set m e }
  | .recorder => some { t with recorder := RecorderSet.ofFields vs }
  | .time => some { t with time := ⟨MarkPolicy.ofCode (fieldAt vs 0), fieldAt vs 1⟩ }
  | .link =>
    if code (fieldAt vs 0) = own then none
    else some { t with link := ⟨code (fieldAt vs 0), portOfCode (fieldAt vs 1)⟩ }

/-- An entry as READ_ENTRY returns it (R169). -/
def Tables.entryBytes (t : Tables) (r : TableRef) : List Byte := writeFields (fieldsOf r) (t.entryFields r)

/-- The tables after a write of an entry's data, or none when a field is out of range or the combination is refused. -/
def Tables.written (own : Byte) (t : Tables) (r : TableRef) (data : List Byte) : Option Tables :=
  let vs := readFields (fieldsOf r) data
  if inRanges (fieldsOf r) vs then t.withFields own r vs else none

end Sys2Proof.Machine
end

