-- ==== Sys2Proof/Machine/Frames.lean ====
section
/-! DEFINITION. Frames of the brake link: header, payload, check, reception checks, and the frames the part builds
(R3, R4, R6, R7, R9). -/

namespace Sys2Proof.Machine

/-! ## The check (R4) -/

/-- One bit of the check register's division by x^16 + x^12 + x^5 + 1. -/
def crcShift (r : BitVec 16) : BitVec 16 := if r.msb then (r <<< 1) ^^^ 0x1021#16 else r <<< 1

/-- A byte enters the check, most significant bit first. -/
def crcByte (r : BitVec 16) (b : Byte) : BitVec 16 :=
  crcShift (crcShift (crcShift (crcShift (crcShift (crcShift (crcShift (crcShift (r ^^^ (b.setWidth 16 <<< 8)))))))))

/-- The 16-bit check over bytes in the order they are sent: initial value FFFF hex, no reflection, no final inversion. -/
def crc (bs : List Byte) : BitVec 16 := bs.foldl crcByte 0xFFFF#16

/-! ## Frame fields (Table 1-1) -/

/-- The byte at an offset, 0 past the end; read only where the length is known to suffice. -/
def byteAt (f : Frame) (n : Nat) : Byte := f.getD n 0

def frameDest (f : Frame) : Byte := byteAt f 0
def frameSource (f : Frame) : Byte := byteAt f 1
def frameKind (f : Frame) : Byte := byteAt f 2
def frameSeq (f : Frame) : Byte := byteAt f 3
def frameLength (f : Frame) : Nat := (byteAt f 4).toNat

/-- The payload: the bytes between the header and the check. -/
def framePayload (f : Frame) : List Byte := (f.drop 5).take (f.length - 7)

/-- The check a frame was received with. -/
def frameCheck (f : Frame) : Nat := ofBytes (f.drop (f.length - 2))

/-! ## Kinds and addresses (Tables 1-2, 1-3) -/

def kindDemand : Byte := 0x11
def kindSample : Byte := 0x21
def kindOrder : Byte := 0x31
def kindReport : Byte := 0x32
def kindTimeMark : Byte := 0x41
def kindRequest : Byte := 0x51
def kindResponse : Byte := 0x52
def kindNotice : Byte := 0x61

/-- The broadcast address (Table 1-2). -/
def broadcast : Byte := 0xFF

/-! ## Reception checks (R9) -/

/-- The counter a refused frame is counted in (Table 1-15). -/
inductive Refused where
  | badForm | badCheck
  deriving DecidableEq, Repr

/-- The reception checks in the order of Table 1-15: the counter of the first that fails, or none. Check 2 goes by the number
of bytes received, since check 3, which compares it with the length field, comes after (DEDUCED, note 12). -/
def receptionFault (own : Byte) (f : Frame) : Option Refused :=
  if f.length < 7 ∨ 67 < f.length then some .badForm
  else if (crc (f.take (f.length - 2))).toNat ≠ frameCheck f then some .badCheck
  else if frameLength f ≠ f.length - 7 then some .badForm
  else if frameDest f = 0 ∨ frameSource f = 0 then some .badForm
  else if frameSource f = own then some .badForm
  else none

/-! ## Frames the part builds (R7) -/

/-- Header and payload of a frame. -/
def frameBody (dest src kind seq : Byte) (payload : List Byte) : List Byte :=
  dest :: src :: kind :: seq :: code payload.length :: payload

/-- A frame with its check appended (R4). -/
def buildFrame (dest src kind seq : Byte) (payload : List Byte) : Frame :=
  frameBody dest src kind seq payload ++ toBytes 2 (crc (frameBody dest src kind seq payload)).toNat

end Sys2Proof.Machine
end

