-- ==== Sys2Proof/Machine/Link.lean ====
section
/-! DEFINITION. The ports: arbiters, forward queues, originated queues and link counters (R17 to R22). -/

namespace Sys2Proof.Machine

/-! ## The arbiter (R19) -/

/-- The oldest forward frame is taken, and the run count becomes 0. -/
def PortState.takeForward (p : PortState) (f : Frame) (rest : List Frame) : PortState :=
  { p with forward := rest, line := .sending f, run := 0 }

/-- The oldest originated frame is taken; the run count counts it when a forward frame waits, and becomes 0 otherwise. -/
def PortState.takeOriginated (p : PortState) (o : OrigFrame) (rest : List OrigFrame) : PortState :=
  { p with originated := rest, line := .sending o.bytes, run := if p.forward.isEmpty then 0 else p.run + 1 }

/-- The arbiter chooses the next frame (R19). -/
def PortState.choose (p : PortState) : PortState :=
  match p.forward, p.originated with
  | [], [] => { p with line := .idle }
  | f :: fs, [] => p.takeForward f fs
  | [], o :: os => p.takeOriginated o os
  | f :: fs, o :: os => if p.run = 4 then p.takeForward f fs else p.takeOriginated o os

/-- After a placement the arbiter chooses when the line is IDLE (R19). -/
def PortState.settle (p : PortState) : PortState := if p.line = .idle then p.choose else p

/-! ## Counters (R21) -/

def State.countGood (s : State) (p : Port) : State := s.onPort p fun x => { x with good := x.good + 1 }
def State.countBadForm (s : State) (p : Port) : State := s.onPort p fun x => { x with badForm := x.badForm + 1 }
def State.countBadCheck (s : State) (p : Port) : State := s.onPort p fun x => { x with badCheck := x.badCheck + 1 }
def State.countOverflow (s : State) (p : Port) : State := s.onPort p fun x => { x with overflow := x.overflow + 1 }
def State.countUnclaimed (s : State) : State := { s with link := { s.link with unclaimed := s.link.unclaimed + 1 } }
def State.countDemandRefused (s : State) : State :=
  { s with link := { s.link with demandRefused := s.link.demandRefused + 1 } }
def State.countSampleRefused (s : State) : State :=
  { s with link := { s.link with sampleRefused := s.link.sampleRefused + 1 } }
def State.countReportRefused (s : State) : State :=
  { s with link := { s.link with reportsRefused := s.link.reportsRefused + 1 } }
def State.countResponseDropped (s : State) : State :=
  { s with link := { s.link with responsesDropped := s.link.responsesDropped + 1 } }

/-- Every counter of one port at 0. -/
def PortState.clearCounters (p : PortState) : PortState :=
  { p with good := 0, badCheck := 0, badForm := 0, overflow := 0, transmitted := 0 }

/-- All fifteen counters at 0 (R21). -/
def LinkBlock.clearCounters (l : LinkBlock) : LinkBlock :=
  { l with portA := l.portA.clearCounters, portB := l.portB.clearCounters
           unclaimed := 0, demandRefused := 0, sampleRefused := 0, reportsRefused := 0, responsesDropped := 0 }

/-! ## The originated queue (R18) -/

/-- The originated queue of a port has a place free (R18). -/
def State.hasRoom (s : State) (p : Port) : Bool := decide ((s.port p).originated.length < 12)

/-- A frame is accepted into an originated queue: it takes the transmit sequence counter's value, the counter advances, and an
IDLE line takes a frame at once (R7, R18, R19). -/
def State.accept (s : State) (p : Port) (o : Origin) (dest kind : Byte) (payload : List Byte) : State :=
  let f : OrigFrame := ⟨o, buildFrame dest s.link.own kind s.link.txSeq payload⟩
  let s1 := s.onPort p fun x => PortState.settle { x with originated := x.originated ++ [f] }
  { s1 with link := { s1.link with txSeq := s.link.txSeq + 1 } }

/-- A frame is offered to an originated queue: accepted when it holds fewer than 12 frames, and otherwise refused without
taking a sequence number (R7, R18). The caller learns which from `hasRoom`. -/
def State.offer (s : State) (p : Port) (o : Origin) (dest kind : Byte) (payload : List Byte) : State :=
  if s.hasRoom p then s.accept p o dest kind payload else s

/-! ## Withdrawal of effort orders from Port B's originated queue (R125) -/

/-- Port B's originated queue with some frames taken out. -/
def State.keepOriginated (s : State) (keep : List OrigFrame → List OrigFrame) : State :=
  s.onPort .b fun x => { x with originated := keep x.originated }

/-- Every effort order for a node is withdrawn. -/
def State.withdrawNode (s : State) (n : NodeSlot) : State :=
  s.keepOriginated fun q => q.filter fun f => f.origin ≠ .order n

/-- The frame is an effort order built at a publication. -/
def OrigFrame.isOrder (f : OrigFrame) : Bool :=
  match f.origin with
  | .order _ => true
  | _ => false

/-- Every effort order for every node is withdrawn. -/
def State.withdrawAll (s : State) : State :=
  s.keepOriginated fun q => q.filter fun f => !f.isOrder

/-- The order of the node's latest exchange, when it still waits: the newest order for the node in the queue, since the queue
is first in, first out (DEDUCED, note 29). -/
def State.withdrawNewest (s : State) (n : NodeSlot) : State :=
  s.keepOriginated fun q => (q.reverse.eraseP fun f => f.origin = .order n).reverse

/-- The forward queue of a port has a place free (R17). -/
def State.forwardRoom (s : State) (p : Port) : Bool := decide ((s.port p).forward.length < 16)

/-- A frame is placed at the tail of a forward queue, and an IDLE line takes a frame at once (R17, R19). -/
def State.placeForward (s : State) (p : Port) (f : Frame) : State :=
  s.onPort p fun x => PortState.settle { x with forward := x.forward ++ [f] }

/-- A transmission is complete: it is counted, and the arbiter chooses again (R20). -/
def PortState.completed (p : PortState) : PortState := PortState.choose { p with transmitted := p.transmitted + 1 }

end Sys2Proof.Machine
end

