-- ==== Sys2Proof/Machine/Events.lean ====
section
/-! DEFINITION. The pending event set and event notices (R146 to R148). -/

namespace Sys2Proof.Machine

/-- The code of an event kind (Table 1-14). -/
def EventId.code : EventId → Byte
  | .demandLost _ => 0x01
  | .emergencyEntered => 0x02
  | .sensorFault _ => 0x03
  | .refHeld => 0x04
  | .refInvalid => 0x05
  | .slidePersistent _ => 0x06
  | .reliefLockout _ => 0x07
  | .nodeDegraded _ => 0x08
  | .nodeLost _ => 0x09
  | .airUnplaced => 0x0A
  | .fallbackSet => 0x0B
  | .failsafeEntered => 0x0C
  | .recordLost => 0x0D
  | .linkOverflow _ => 0x0E
  | .monitor _ => 0x0F

/-- The index of an event (Table 1-14): trucks are numbered 1 and 2, Port A is 0 and Port B 1. -/
def EventId.index : EventId → Byte
  | .demandLost d => Machine.code d.val
  | .sensorFault i => Machine.code i.val
  | .slidePersistent i => Machine.code i.val
  | .reliefLockout t => Machine.code (t.val + 1)
  | .nodeDegraded n => Machine.code n.val
  | .nodeLost n => Machine.code n.val
  | .linkOverflow .a => 0
  | .linkOverflow .b => 1
  | .monitor m => Machine.code m.val
  | .emergencyEntered | .refHeld | .refInvalid | .airUnplaced | .fallbackSet | .failsafeEntered | .recordLost => 0

/-- The payload of an event notice (Table 1-11). -/
def noticePayload (e : EventId) (stamp : Count) (epoch : Counter) : List Byte :=
  e.code :: e.index :: (stampBytes stamp ++ toBytes 4 epoch.toNat)

/-- What becomes of the notice of an event created now (R147). -/
def State.noticeOutcome (s : State) : Notice :=
  if s.tables.link.noticeAddress = 0 then .unsent
  else if s.hasRoom s.tables.link.noticePort then .queued else .refused

/-- The notice frame of a created event is offered to the notice port, unless the notice address is 00 (R147). -/
def State.sendNotice (s : State) (e : EventId) : State :=
  if s.tables.link.noticeAddress = 0 then s
  else s.offer s.tables.link.noticePort .notice s.tables.link.noticeAddress kindNotice
    (noticePayload e s.now s.blend.epoch)

/-- The event set holds an event of this kind and index. -/
def State.isPending (s : State) (e : EventId) : Bool := s.monitor.events.any fun x => x.id = e

def State.setEvents (s : State) (es : List PendingEvent) : State := { s with monitor := { s.monitor with events := es } }

/-- A raise: the pending event of this kind and index counts it, or a new one joins the tail of the set and its notice is
settled (R146, R147). -/
def State.raise (e : EventId) (s : State) : State :=
  if s.isPending e then
    s.setEvents (s.monitor.events.map fun x => if x.id = e then { x with count := bump 255 x.count } else x)
  else
    (s.sendNotice e).setEvents
      (s.monitor.events ++ [{ id := e, count := 1, stamp := s.now, epoch := s.blend.epoch, notice := s.noticeOutcome }])

end Sys2Proof.Machine
end

