-- ==== Sys2Proof/Machine/TimeBase.lean ====
section
/-! DEFINITION. The reference count's step, the corrector and the mark capture (R23, R26, R31 to R35). -/

namespace Sys2Proof.Machine

/-- One step of the time base: by 1, or by 2 (ADVANCE) or 0 (RETARD) when the corrector carries (R23, R26). -/
def TimeBlock.step (t : TimeBlock) : TimeBlock :=
  if t.value = 0 then { t with count := t.count + 1 }
  else
    let sum := t.accumulator.toNat + t.value.toNat
    if sum < 16777216 then { t with count := t.count + 1, accumulator := BitVec.ofNat 24 sum }
    else
      { t with
        count := t.count + (match t.sense with | .advance => 2 | .retard => 0)
        accumulator := BitVec.ofNat 24 (sum - 16777216) }

/-- One more discarded mark; the count stays at 255 once there (section 2.7). -/
def MarkCapture.discard (m : MarkCapture) : MarkCapture := { m with discards := bump 255 m.discards }

/-- The held mark is replaced; a FRESH mark replaced was never read and counts as discarded (R33). -/
def MarkCapture.replace (m : MarkCapture) (number : BitVec 16) (master : BitVec 48) (stamp : Count) : MarkCapture :=
  { state := .fresh, number := number, master := master, stamp := stamp
    discards := if m.state = .fresh then bump 255 m.discards else m.discards }

/-- Whether a well-formed mark replaces the held one (Table 2-3), by its own arrival stamp. -/
def markReplaces (set : TimeSet) (m : MarkCapture) (stamp : Count) : Bool :=
  match m.state with
  | .empty | .read => true
  | .fresh =>
    match set.policy with
    | .overwrite => true
    | .holdUntilRead => false
    | .holdWithExpiry => decide ((set.hold * 1000 : Int) < elapsed m.stamp stamp)

/-- A time mark handed to the mark capture (R32, R33). -/
def MarkCapture.take (set : TimeSet) (m : MarkCapture) (stamp : Count) (payload : List Byte) : MarkCapture :=
  if payload.length ≠ 8 then m.discard
  else if markReplaces set m stamp then
    m.replace (BitVec.ofNat 16 (ofBytes (payload.take 2))) (BitVec.ofNat 48 (ofBytes (payload.drop 2))) stamp
  else m.discard

/-- A TIME_MARK frame is taken by the mark capture. -/
def takeTimeMark (stamp : Count) (f : Frame) (s : State) : State :=
  { s with time := { s.time with mark := MarkCapture.take s.tables.time s.time.mark stamp (framePayload f) } }

/-- The mark capture after READ_TIMEMARK: discard count 0, and a FRESH mark is READ (R34). -/
def MarkCapture.afterRead (m : MarkCapture) : MarkCapture :=
  { m with discards := 0, state := if m.state = .fresh then .read else m.state }

/-- The copy an incident takes of the mark capture (R35). -/
def MarkCapture.copy (m : MarkCapture) : Option MarkCopy :=
  match m.state with
  | .empty => none
  | .fresh => some ⟨m.number, m.master, m.stamp, true⟩
  | .read => some ⟨m.number, m.master, m.stamp, false⟩

end Sys2Proof.Machine
end

