-- ==== Sys2Proof/Machine/Recorder.lean ====
section
/-! DEFINITION. The incident recorder: snapshots and the pre-trigger ring, triggers, opening, the store policies, extension and
closing (R150 to R158). -/

namespace Sys2Proof.Machine

/-! ## The store -/

/-- The slots an incident holds: an OPEN one its reserved slots, a closed one as many as it has snapshots (R153). -/
def Incident.slots (x : Incident) : Nat := if x.state = .opened then x.reserved else x.snaps.length

/-- The slots held by all incidents. -/
def slotsHeld (xs : List Incident) : Nat := (xs.map Incident.slots).sum

/-- The free slots of the store (R153). -/
def freeSlots (xs : List Incident) : Nat := 1024 - slotsHeld xs

/-- There is room for an incident of this many slots: enough free slots and a free directory entry (R153). -/
def hasSpace (need : Nat) (xs : List Incident) : Bool := decide (need ≤ freeSlots xs) && decide (xs.length < 16)

/-- A closed incident that the store policy may free (Table 10-3). -/
def eligible (set : RecorderSet) (now : Count) (x : Incident) : Bool :=
  match x.state with
  | .opened => false
  | .closedRead => true
  | .closedUnread =>
    match set.policy with
    | .overwriteOldest => true
    | .keepUnread => false
    | .keepTimed =>
      match x.closeStamp with
      | none => false
      | some c => decide (elapsed c now < 0) || decide ((set.keepTime * 1000000 : Int) < elapsed c now)

/-- Eligible incidents are freed in closing order, oldest first, until there is room; `kept` are those passed over. -/
def freeUntil (set : RecorderSet) (now : Count) (need : Nat) : List Incident → List Incident → List Incident
  | kept, [] => kept
  | kept, x :: xs =>
    if hasSpace need (kept ++ x :: xs) then kept ++ x :: xs
    else if eligible set now x then freeUntil set now need kept xs
    else freeUntil set now need (kept ++ [x]) xs

/-- The store with room made for an incident of `need` slots under the store policy, or none when freeing every eligible
incident would not give it (R153, R154). -/
def makeRoom (set : RecorderSet) (now : Count) (need : Nat) (xs : List Incident) : Option (List Incident) :=
  if hasSpace need xs then some xs
  else if hasSpace need (xs.filter fun x => !eligible set now x) then some (freeUntil set now need [] xs)
  else none

/-- The number after `n`: 65535 is followed by 1 (R155). -/
def numberAfter (n : Nat) : Nat := if n < 65535 then n + 1 else 1

/-- The first number after `n` that no held incident carries. At most 16 are held, so 17 tries suffice (R155). -/
def nextFree (held : List Nat) : Nat → Nat → Nat
  | 0, n => numberAfter n
  | fuel + 1, n => if numberAfter n ∈ held then nextFree held fuel (numberAfter n) else numberAfter n

/-! ## Causes -/

/-- The mask value of a cause (Table 10-2); none for a cause that is always enabled. -/
def Cause.mask : Cause → Option Nat
  | .monitor _ => some 1
  | .emergencyEntry => some 2
  | .demandLost _ => some 4
  | .nodeLost _ => some 8
  | .slidePersistent _ => some 16
  | .incidentLine => some 32
  | .management | .failsafeEntry => none

/-- The cause mask includes the cause, or the cause is always enabled (R152). -/
def causeEnabled (mask : Nat) (c : Cause) : Bool :=
  match c.mask with
  | none => true
  | some v => mask / v % 2 == 1

/-- A cause joins a cause list: its entry counts it, or a new entry is added while there are fewer than four (R157). -/
def addCause (c : Cause) (now : Count) (l : List CauseEntry) : List CauseEntry :=
  if l.any fun e => e.cause = c then l.map fun e => if e.cause = c then { e with count := bump 255 e.count } else e
  else if l.length < 4 then l ++ [{ cause := c, stamp := now, count := 1 }]
  else l

/-- A cause that finds four other entries sets MORE_CAUSES (R157). -/
def causeOverflows (c : Cause) (l : List CauseEntry) : Bool := !(l.any fun e => e.cause = c) && decide (4 ≤ l.length)

/-! ## Triggers -/

/-- What became of a trigger. -/
inductive TriggerResult where
  | ignored
  | opened (number : Nat)
  | added (number : Nat)
  | refused
  deriving DecidableEq, Repr

/-- The incident that is OPEN, if any. -/
def RecorderBlock.openIncident (r : RecorderBlock) : Option Incident := r.incidents.find? fun x => x.state = .opened

/-- A change of the OPEN incident. -/
def RecorderBlock.onOpen (r : RecorderBlock) (f : Incident → Incident) : RecorderBlock :=
  { r with incidents := r.incidents.map fun x => if x.state = .opened then f x else x }

/-- The post-trigger count a cause asks for: none follows FAILSAFE_ENTRY (R153, R155). -/
def postFor (set : RecorderSet) (c : Cause) : Nat := if c = .failsafeEntry then 0 else set.post

/-- The record of an incident opened now (R155). -/
def openedIncident (s : State) (c : Cause) : Incident :=
  { number := s.recorder.nextNumber, state := .opened, openStamp := s.now, closeStamp := none
    causes := [{ cause := c, stamp := s.now, count := 1 }]
    cutShort := false, truncated := false, moreCauses := false
    mark := s.time.mark.copy
    lineStamp := if c = .incidentLine then s.recorder.edge else none
    snaps := s.recorder.ring
    remaining := postFor s.tables.recorder c
    reserved := s.recorder.ring.length + postFor s.tables.recorder c }

/-- An incident opens in a store that has room, and the next incident number moves on (R155). -/
def openIncident (s : State) (c : Cause) (kept : List Incident) : State :=
  let xs := kept ++ [openedIncident s c]
  s.setRecorder { s.recorder with
    incidents := xs
    nextNumber := nextFree (xs.map Incident.number) 17 s.recorder.nextNumber }

/-- A refused trigger: RECORD_LOST is raised and the lost-trigger count moves, staying at 65535 once there (R154). -/
def refuseTrigger (s : State) : State :=
  (s.raise .recordLost).setRecorder { s.recorder with lost := bump 65535 s.recorder.lost }

/-- The snapshots an extension asks for beyond those still expected (R157). Where the post-trigger count is the limit, the remaining
count after a retrigger and a snapshot then depends on which came first, although R165 says that it ends the same: the model follows
R157 (DESIGN CHOICE, note 31). -/
def wantedAddition (set : RecorderSet) (x : Incident) : Nat :=
  min set.post (set.maximum - x.snaps.length) - x.remaining

/-- The OPEN incident after a retrigger, with `free` slots free in the store (R157). -/
def retriggered (set : RecorderSet) (c : Cause) (now : Count) (edge : Option Count) (free : Nat) (x : Incident) : Incident :=
  let extend := set.extension && decide (c ≠ .failsafeEntry)
  let wanted := if extend then wantedAddition set x else 0
  { x with
    causes := addCause c now x.causes
    moreCauses := x.moreCauses || causeOverflows c x.causes
    lineStamp := if c = .incidentLine ∧ x.lineStamp = none then edge else x.lineStamp
    truncated := x.truncated || decide (free < wanted)
    remaining := x.remaining + min wanted free
    reserved := x.reserved + min wanted free }

/-- The recorder takes the trigger (R152): the part is in RUN and the cause is enabled. -/
def State.takesTrigger (s : State) (c : Cause) : Bool := s.running && causeEnabled s.tables.recorder.causeMask c

/-- The slots a trigger asks for with no incident open: the ring count plus the post-trigger count (R153). While the ring is not
full, or with depth 0, the incident then depends on whether a publication's snapshot was taken before or after the trigger, although
R165 says that the sum is the same and the snapshot held once: the model follows R151, R153 and R155 (DESIGN CHOICE, note 32). -/
def State.slotsAsked (s : State) (c : Cause) : Nat := s.recorder.ring.length + postFor s.tables.recorder c

/-- What becomes of a trigger (R152 to R157). -/
def State.triggerResult (s : State) (c : Cause) : TriggerResult :=
  if s.takesTrigger c then
    match s.recorder.openIncident with
    | some x => .added x.number
    | none =>
      match makeRoom s.tables.recorder s.now (s.slotsAsked c) s.recorder.incidents with
      | some _ => .opened s.recorder.nextNumber
      | none => .refused
  else .ignored

/-- The recorder is given a trigger (R152 to R157). -/
def State.trigger (c : Cause) (s : State) : State :=
  if s.takesTrigger c then
    match s.recorder.openIncident with
    | some _ =>
      s.setRecorder (s.recorder.onOpen
        (retriggered s.tables.recorder c s.now s.recorder.edge (freeSlots s.recorder.incidents)))
    | none =>
      match makeRoom s.tables.recorder s.now (s.slotsAsked c) s.recorder.incidents with
      | some kept => openIncident s c kept
      | none => refuseTrigger s
  else s

/-! ## Snapshots -/

/-- The snapshot of the last publication, with the other blocks' records as they stand (R151). -/
def State.snapshot (s : State) : Snapshot :=
  let p := s.blend.pub
  { epoch := p.epoch, time := p.time, kind := p.kind
    active := vec8 fun m => s.monitor.runs[m].active
    demand := p.demand, fallback := p.fallback
    refValue := p.refValue, refState := p.refState, estimate := p.estimate
    demanded := p.totals.demanded, dynamic := p.totals.dynamic, airTarget := p.totals.airTarget
    airAchieved := p.totals.airAchieved, unplaced := p.totals.unplaced, shortfall := p.totals.shortfall
    trucks := vec2 fun t =>
      { target := p.trucks[t].target, output := p.trucks[t].output, feedback := (s.node (valveOf t)).achieved
        relief := p.trucks[t].relief, node := (s.node (valveOf t)).sup.state }
    axles := vec6 fun i =>
      { speed := s.speed.axles[i].speed, validity := s.speed.axles[i].validity
        slide := s.slide.axles[i].state, limit := s.slide.axles[i].limit, ceiling := s.slide.axles[i].ceiling
        target := p.axles[i].target, output := p.axles[i].output
        achieved := (s.node (inverterOf i)).achieved, node := (s.node (inverterOf i)).sup.state } }

/-- The ring with a snapshot at its tail, the oldest removed beyond the depth (R151). -/
def ringWith (depth : Nat) (ring : List Snapshot) (x : Snapshot) : List Snapshot :=
  (ring ++ [x]).drop ((ring ++ [x]).length - depth)

/-- The OPEN incident with a snapshot appended; it closes when no more are expected (R156). -/
def appended (snap : Snapshot) (now : Count) (x : Incident) : Incident :=
  let y := { x with snaps := x.snaps ++ [snap], remaining := x.remaining - 1 }
  if y.remaining = 0 then { y with state := .closedUnread, closeStamp := some now, reserved := y.snaps.length } else y

/-- The recorder's reaction to a publication: in RUN, one snapshot (R151, R156). -/
def State.takeSnapshot (s : State) : State :=
  if s.running then
    s.setRecorder
      ({ s.recorder with ring := ringWith s.tables.recorder.depth s.recorder.ring s.snapshot }.onOpen
        (appended s.snapshot s.now))
  else s

/-- An OPEN incident is closed CUT_SHORT, its unfilled slots returned (R158). -/
def Incident.cut (now : Count) (x : Incident) : Incident :=
  { x with state := .closedUnread, cutShort := true, closeStamp := some now, reserved := x.snaps.length }

/-- The recorder's value for leaving RUN (R158). -/
def RecorderBlock.leaveRun (r : RecorderBlock) (now : Count) : RecorderBlock := r.onOpen (Incident.cut now)

end Sys2Proof.Machine
end

