-- ==== Sys2Proof/Machine/Orders.lean ====
section
/-! DEFINITION. The order unit: orders on each publication, report checking and outcomes, supervision, control loss, cut-out and
release on leaving RUN (R122 to R139). -/

namespace Sys2Proof.Machine

/-! ## Nodes in service -/

/-- A supervision state in service. -/
def NodeState.inService : NodeState → Bool
  | .active | .degraded => true
  | .absent | .joining | .lost | .cutOut => false

/-- The node of the slot is present and its supervision state ACTIVE or DEGRADED. -/
def State.nodeInService (s : State) (n : NodeSlot) : Bool := s.tables.node[n].present && (s.node n).sup.state.inService

/-- The number of present nodes in ACTIVE or DEGRADED (R136). -/
def State.inService (s : State) : Nat := nodeSlots.countP fun n => s.nodeInService n

/-- The control-loss timer, judged after a transition or a cut: `before` is the number of nodes in service before it (R136). -/
def State.judgeControlLoss (before : Nat) (s : State) : State :=
  if before = 0 ∧ 0 < s.inService then { s with order := { s.order with controlLoss := none } }
  else if 0 < before ∧ s.inService = 0 ∧ s.running then
    { s with order := { s.order with controlLoss := startTimer s.now s.tables.blend.controlLoss } }
  else s

/-! ## Supervision (R132, R133) -/

/-- The supervision record after an outcome (Table 8-4, judged on the runs as they stand after it). -/
def Supervision.after (e : NodeEntry) (u : Supervision) (good : Bool) : Supervision :=
  if good then
    let run := bump 255 u.goodRun
    { goodRun := run, missRun := 0
      state := match u.state with
        | .absent | .joining | .lost => if e.join ≤ run then .active else .joining
        | .active => .active
        | .degraded => if e.join ≤ run then .active else .degraded
        | .cutOut => .cutOut }
  else
    let run := bump 255 u.missRun
    { goodRun := 0, missRun := run
      state := match u.state with
        | .absent => .absent
        | .joining => .lost
        | .active => if e.degrade ≤ run then .degraded else .active
        | .degraded => if e.lost ≤ run then .lost else .degraded
        | .lost => .lost
        | .cutOut => .cutOut }

/-- What a transition brings about: NODE_DEGRADED, or NODE_LOST with its trigger and the withdrawal of the node's waiting
orders (R133). -/
def State.transitionEffects (n : NodeSlot) (old new : NodeState) (s : State) : State :=
  if old = .active ∧ new = .degraded then s.raise (.nodeDegraded n)
  else if old = .degraded ∧ new = .lost then ((s.raise (.nodeLost n)).trigger (.nodeLost n)).withdrawNode n
  else s

/-- The supervision record takes an outcome, at the moment the exchange ends (R132, R133, R136). -/
def State.takeOutcome (n : NodeSlot) (good : Bool) (s : State) : State :=
  let old := (s.node n).sup
  let new := old.after s.tables.node[n] good
  ((s.onNode n fun r => { r with sup := new }).transitionEffects n old.state new.state).judgeControlLoss s.inService

/-! ## Exchanges -/

/-- An exchange ends: IDLE, its deadline timer stopped. -/
def Exchange.ended (x : Exchange) : Exchange := { x with awaiting := false, deadline := none }

/-- An AWAITING exchange ends missed (R124 step 1, R129); `tagged` says that it sets the last missed tag. -/
def NodeRec.miss (tagged : Bool) (r : NodeRec) : NodeRec :=
  { r with
    exch := { r.exch.ended with lastMissed := if tagged then some r.exch.tag else r.exch.lastMissed }
    counts := { r.counts with missed := r.counts.missed + 1 } }

/-- An AWAITING exchange is abandoned: it ends, its deadline timer stopped, and is counted; an IDLE one is left, its timer stopped
already (R134, R137). -/
def NodeRec.abandon (r : NodeRec) : NodeRec :=
  { r with
    exch := r.exch.ended
    counts := { r.counts with abandoned := if r.exch.awaiting then r.counts.abandoned + 1 else r.counts.abandoned } }

/-! ## Orders on each publication (R124) -/

/-- The payload of an effort order (Table 1-6). -/
def orderPayload (tag : Byte) (c : Control) (emergency : Bool) (value : Nat) : List Byte :=
  tag :: code (match c with | .releaseControl => 0 | .holdControl => 1) :: flag emergency :: toBytes 2 value

/-- The output of the publication that a node's order carries: the axle output of an inverter, the pressure output of a valve
unit. -/
def Publication.outputFor (p : Publication) (n : NodeSlot) : Nat :=
  if h : n.val < 6 then p.axles[n.val].output else p.trucks[n.val - 6].output

/-- The control and value of the order built for a node (Table 8-3). -/
def orderFor (p : Publication) (n : NodeSlot) (st : NodeState) : Control × Nat :=
  if st.inService then (.holdControl, p.outputFor n)
  else if n.val < 6 then (.holdControl, 0) else (.releaseControl, 0)

/-- Step 1 of R124: an AWAITING exchange is superseded. The supervision record takes the miss, and what it raises, before the
order that still waits is withdrawn. -/
def State.supersede (n : NodeSlot) (s : State) : State :=
  if (s.node n).exch.awaiting then
    ((s.onNode n (NodeRec.miss false)).takeOutcome n false).withdrawNewest n
  else s

/-- The exchange of an accepted order (R124 step 3). -/
def NodeRec.issue (tag : Byte) (o : Control × Nat) (time : Count) (response : Nat) (r : NodeRec) : NodeRec :=
  { r with
    exch := { r.exch with awaiting := true, tag := tag, control := o.1, value := o.2, issued := time
                          deadline := startTimer time response }
    counts := { r.counts with issued := r.counts.issued + 1 } }

/-- The records of a node whose order the queue refused: NOT_SENT (R124 step 3). -/
def NodeRec.notSent (r : NodeRec) : NodeRec :=
  { r with counts := { r.counts with issued := r.counts.issued + 1, missed := r.counts.missed + 1
                                     notSent := r.counts.notSent + 1 } }

/-- The tag of orders and release orders: the epoch number modulo 256 (R124, R134, R137). -/
def tagOf (epoch : Counter) : Byte := epoch.setWidth 8

/-- Steps 2 and 3 of R124: the order is built, offered, and its exchange begun or ended NOT_SENT. -/
def State.issueOrder (n : NodeSlot) (s : State) : State :=
  let p := s.blend.pub
  let o := orderFor p n (s.node n).sup.state
  let tag := tagOf p.epoch
  if s.hasRoom .b then
    (s.accept .b (.order n) s.tables.node[n].address kindOrder
        (orderPayload tag o.1 (p.demand.mode = .emergency) o.2)).onNode n
      (NodeRec.issue tag o p.time s.tables.node[n].response)
  else (s.onNode n NodeRec.notSent).takeOutcome n false

/-- The order unit's work for one node slot at a publication (R124). -/
def State.orderNode (s : State) (n : NodeSlot) : State :=
  if s.tables.node[n].present ∧ (s.node n).sup.state ≠ .cutOut then (s.supersede n).issueOrder n else s

/-- The order unit's reaction to a publication: in RUN, each node slot in turn (R124). -/
def State.orderAll (s : State) : State := if s.running then nodeSlots.foldl State.orderNode s else s

/-! ## Reports (R126 to R128) -/

/-- The outcome of a matching report: BAD for FAULT, and for LOCAL to HOLD_CONTROL; GOOD otherwise (R127). -/
def reportGood (status : Nat) (c : Control) : Bool :=
  match status with
  | 2 => false
  | 3 => c == .releaseControl
  | _ => true

/-- A report that does not belong to the exchange is late or stray (R127). -/
def NodeRec.unmatched (tag : Byte) (r : NodeRec) : NodeRec :=
  if r.exch.lastMissed = some tag then { r with counts := { r.counts with late := r.counts.late + 1 } }
  else { r with counts := { r.counts with stray := r.counts.stray + 1 } }

/-- A matching report ends the exchange GOOD or BAD (R127); a negative reply time counts as 0. -/
def NodeRec.answered (good : Bool) (stamp : Count) (r : NodeRec) : NodeRec :=
  { r with
    exch := { r.exch.ended with replyTime := (elapsed r.exch.issued stamp).toNat }
    counts := if good then { r.counts with good := r.counts.good + 1 } else { r.counts with bad := r.counts.bad + 1 } }

/-- A GOOD answer to HOLD_CONTROL stores feedback (R128); OK is status 0, LIMITED 1. -/
def NodeRec.feedback (n : NodeSlot) (status achieved capability : Nat) (r : NodeRec) : NodeRec :=
  { r with
    achieved := some achieved
    cap := if n.val < 6 then (if status = 1 then some capability else if status = 0 then none else r.cap) else r.cap }

/-- A report of a node is matched against its exchange (R127, R128). -/
def State.matchReport (n : NodeSlot) (stamp : Count) (tag : Byte) (status achieved capability : Nat) (s : State) : State :=
  let x := (s.node n).exch
  if x.awaiting ∧ x.tag = tag then
    let good := reportGood status x.control
    let s1 := (s.onNode n (NodeRec.answered good stamp)).takeOutcome n good
    if good ∧ x.control = .holdControl then s1.onNode n (NodeRec.feedback n status achieved capability) else s1
  else s.onNode n (NodeRec.unmatched tag)

/-- The report stores a pressure: a GOOD answer of a valve unit to HOLD_CONTROL (R128); the monitor's TRUCK_PRESSURE source
then updates. -/
def State.reportStores (n : NodeSlot) (tag : Byte) (status : Nat) (s : State) : Bool :=
  let x := (s.node n).exch
  x.awaiting && x.tag == tag && reportGood status x.control && x.control == .holdControl && decide (6 ≤ n.val)

/-! ## Release orders (R134, R137) -/

/-- One release order is offered to Port B; a refused one is counted. It is not an exchange. -/
def State.offerRelease (s : State) (n : NodeSlot) : State :=
  if s.hasRoom .b then
    s.accept .b (.release n) s.tables.node[n].address kindOrder
      (orderPayload (tagOf s.blend.epoch) .releaseControl false 0)
  else s.onNode n fun r => { r with counts := { r.counts with releasesNotSent := r.counts.releasesNotSent + 1 } }

/-- On leaving RUN, one release order for a present node not in CUT_OUT (R137 step 3). -/
def State.releaseOnLeaving (s : State) (n : NodeSlot) : State :=
  if s.tables.node[n].present ∧ (s.node n).sup.state ≠ .cutOut then s.offerRelease n else s

/-- Every AWAITING exchange is abandoned, every waiting order withdrawn, and the control-loss timer stopped (R137 steps 1, 2
and 4). -/
def State.abandonAll (s : State) : State :=
  State.withdrawAll
    { s with order := { s.order with nodes := vec8 fun n => (s.node n).abandon, controlLoss := none } }

/-- The order unit's part in leaving RUN (R137). -/
def State.releaseControl (s : State) : State := nodeSlots.foldl State.releaseOnLeaving s.abandonAll

/-! ## Cut-out and restore (R134, R135) -/

/-- A node is taken to CUT_OUT; one already there is left (R134). -/
def State.cutNode (n : NodeSlot) (s : State) : State :=
  if (s.node n).sup.state = .cutOut then s
  else
    let s1 := (s.onNode n fun r => { r.abandon with sup := { state := .cutOut, goodRun := 0, missRun := 0 } }).withdrawNode n
    let s2 := if s.running ∧ s.tables.node[n].present then s1.offerRelease n else s1
    s2.judgeControlLoss s.inService

/-- A CUT_OUT node becomes ABSENT; any other is left (R135). -/
def State.restoreNode (n : NodeSlot) (s : State) : State :=
  if (s.node n).sup.state = .cutOut then
    s.onNode n fun r => { r with sup := { state := .absent, goodRun := 0, missRun := 0 } }
  else s

/-- The records of a node slot at soft reset and at RUN entry: CUT_OUT is kept (R123). -/
def NodeRec.restart (r : NodeRec) : NodeRec := NodeRec.fresh (if r.sup.state = .cutOut then .cutOut else .absent)

end Sys2Proof.Machine
end

