-- ==== Sys2Proof/Machine/Agent.lean ====
section
/-! DEFINITION. Entry into RUN, the departure from it, and entry into FAILSAFE, with the values every block takes (R64, R90, R103,
R105, R123, R136, R137, R145, R151, R158, R173, R174). -/

namespace Sys2Proof.Machine

/-! ## Entry into RUN (R173) -/

/-- A demand-source record at RUN entry: NEVER, its loss timer started from the RUN entry count (R64). -/
def SourceRec.enterRun (now : Count) (lossTime : Nat) : SourceRec := { SourceRec.powerOn with timer := startTimer now lossTime }

/-- The blend engine at RUN entry (R68, R90, R103). -/
def BlendBlock.enterRun (s : State) : BlendBlock :=
  { epoch := 0, runEntry := s.now, timer := startTimer s.now s.tables.blend.period
    axles := vec6 fun _ => AxleDrive.zero, trucks := vec2 fun _ => TruckDrive.zero
    prevUnplaced := 0, fallback := false
    pub := Publication.initial s.now s.tables.blend.period s.speed.ref }

/-- The part enters RUN: the state changes, the control-valid line becomes active, and every block takes its RUN-entry values
with the present count as the RUN entry time (R173). -/
def State.enterRun (s : State) : State :=
  { s with
    agent := { s.agent with part := .run, controlValid := true }
    demand := { sources := vec2 fun _ => SourceRec.enterRun s.now s.tables.blend.demandLoss, eff := EffDemand.powerOn }
    blend := BlendBlock.enterRun s
    slide := SlideBlock.powerOn
    order := { nodes := vec8 fun n => (s.node n).restart, controlLoss := startTimer s.now s.tables.blend.controlLoss }
    monitor := { s.monitor with runs := vec8 fun _ => RunState.powerOn }
    recorder := { s.recorder with ring := [] } }

/-! ## Leaving RUN (R174) -/

/-- The demand intake stops its loss timers and keeps its records (R64). -/
def DemandBlock.leaveRun (d : DemandBlock) : DemandBlock :=
  { d with sources := vec2 fun i => { d.sources[i] with timer := none } }

/-- The blend engine stops its timer and sets targets, outputs and slopes to 0; epoch number, flag and last publication are
kept (R90, R103). -/
def BlendBlock.leaveRun (b : BlendBlock) : BlendBlock :=
  { b with timer := none, axles := vec6 fun _ => AxleDrive.zero, trucks := vec2 fun _ => TruckDrive.zero }

/-- The part leaves RUN for another state: the control-valid line becomes inactive and every block takes its values for leaving
RUN at the same moment (R174). -/
def State.leaveRun (target : PartState) (s : State) : State :=
  State.releaseControl
    { s with
      agent := { s.agent with part := target, controlValid := false }
      demand := s.demand.leaveRun
      blend := s.blend.leaveRun
      slide := SlideBlock.powerOn
      recorder := s.recorder.leaveRun s.now }

/-- The FAILSAFE cause and cause entry are set (R174 step 2). -/
def State.setCause (c : FailsafeCause) (entry : Nat) (s : State) : State :=
  { s with agent := { s.agent with cause := c, causeEntry := entry } }

/-- A request for entry into FAILSAFE: in RUN it is applied at once, in the order of R174; otherwise it is not acted on. -/
def State.enterFailsafe (c : FailsafeCause) (entry : Nat) (s : State) : State :=
  if s.running then
    (State.leaveRun .failsafe (State.setCause c entry (s.trigger .failsafeEntry))).raise .failsafeEntered
  else s

end Sys2Proof.Machine
end

