-- ==== Sys2Proof/Machine/Monitor.lean ====
section
/-! DEFINITION. The condition monitor: judging of level and crossing conditions, passes, firings and their actions
(R140 to R145). -/

namespace Sys2Proof.Machine

/-! ## Judging one value -/

/-- The run state after a value that meets a level condition or lies at or beyond its release level; whether the entry fires
(R142). -/
def judgeLevel (meets released : Bool) (persistence : Nat) (r : RunState) : RunState × Bool :=
  if r.active then (if released then { r with active := false, count := 0 } else r, false)
  else if meets then
    if persistence ≤ r.count + 1 then ({ r with active := true, count := persistence }, true)
    else ({ r with count := r.count + 1 }, false)
  else if released then ({ r with count := 0 }, false)
  else (r, false)

/-- The side a value is placed on; between the limits, and at them, the entry keeps its side (R143). -/
def sideOf (threshold : Int) (hysteresis : Nat) (v : Int) (old : Side) : Side :=
  if threshold + hysteresis < v then .high else if v < threshold - hysteresis then .low else old

/-- A change of side in the direction of a crossing condition (R143). -/
def inDirection (c : MonCondition) (new : Side) : Bool :=
  match c, new with
  | .crossUp, .high => true
  | .crossDown, .low => true
  | .crossAny, _ => true
  | _, _ => false

/-- A crossing entry fires when its count has reached the persistence; it is then active and waits for its next crossing. -/
def fireCrossing (persistence : Nat) (r : RunState) : RunState × Bool :=
  if persistence ≤ r.count then ({ r with active := true, count := 0 }, true) else (r, false)

/-- The run state of a crossing entry after a value, before its count is compared with the persistence (R143). -/
def moveCrossing (e : MonEntry) (v : Int) (r : RunState) : RunState :=
  let new := sideOf e.threshold e.hysteresis v r.side
  if new = r.side then
    if 0 < r.count ∧ (e.threshold + e.hysteresis < v ∨ v < e.threshold - e.hysteresis) then { r with count := r.count + 1 }
    else r
  else if r.side = .unknown then { r with side := new }
  else { active := false, count := if inDirection e.condition new then 1 else 0, side := new }

/-- An entry judges a value of its source: its new run state, and whether it fires (R142, R143). -/
def judge (e : MonEntry) (v : Int) (r : RunState) : RunState × Bool :=
  match e.condition with
  | .above => judgeLevel (decide (e.threshold < v)) (decide (v ≤ e.threshold - e.hysteresis)) e.persistence r
  | .below => judgeLevel (decide (v < e.threshold)) (decide (e.threshold + e.hysteresis ≤ v)) e.persistence r
  | .crossUp | .crossDown | .crossAny => fireCrossing e.persistence (moveCrossing e v r)

/-! ## Firing -/

/-- The AIR_FALLBACK action sets the flag, and FALLBACK_SET is raised when it was clear (R88). -/
def State.setFallback (s : State) : State :=
  if s.blend.fallback then s else ({ s with blend := { s.blend with fallback := true } }).raise .fallbackSet

/-- The actions of a firing entry, FAILSAFE apart, in the order of R144. -/
def State.fire (m : Fin 8) (e : MonEntry) (s : State) : State :=
  let s1 := if e.event then s.raise (.monitor m) else s
  let s2 := if e.record then s1.trigger (.monitor m) else s1
  if e.airFallback then s2.setFallback else s2

/-- The sources an event updates, with their new values (Table 9-2). -/
abbrev Updates := List (MonSource × Int)

/-- The new value of a source among those an event updates. -/
def Updates.value (u : Updates) (src : MonSource) : Option Int := (u.find? fun p => p.1 = src).map Prod.snd

/-- An entry of a pass: the state so far, and the lowest entry so far that asked for FAILSAFE. -/
def State.passEntry (u : Updates) (acc : State × Option (Fin 8)) (m : Fin 8) : State × Option (Fin 8) :=
  let e := acc.1.tables.monitor[m]
  match Updates.value u e.source with
  | none => acc
  | some v =>
    if e.enabled then
      let j := judge e v acc.1.monitor.runs[m]
      let s1 := acc.1.setRun m j.1
      if j.2 then (s1.fire m e, if e.failsafe then acc.2 <|> some m else acc.2) else (s1, acc.2)
    else acc

/-- A pass: in RUN every enabled entry on an updated source is evaluated in entry order, and then one FAILSAFE request is handed
to the agent with the lowest entry that asked for it (R141, R144). -/
def State.monitorPass (u : Updates) (s : State) : State :=
  if s.running then
    let r := monitorEntries.foldl (State.passEntry u) (s, none)
    match r.2 with
    | none => r.1
    | some m => r.1.enterFailsafe .monitor m.val
  else s

/-- The sources that a reference update updates (Table 9-2). -/
def State.referenceUpdates (s : State) : Updates :=
  [(.refSpeed, s.speed.ref.value), (.decelEstimate, s.speed.ref.estimate)]

/-- The sources that an effort publication updates (Table 5-5). -/
def State.publicationUpdates (s : State) : Updates :=
  let t := s.blend.pub.totals
  [(.demandedEffort, t.demanded), (.dynamicTarget, t.dynamic), (.dynamicAchieved, t.dynamicAchieved),
   (.airAchieved, t.airAchieved), (.shortfall, t.shortfall), (.airUnplaced, t.unplaced)]

/-- An enabled entry watches one of the updated sources. -/
def State.watches (s : State) (u : Updates) : Bool :=
  monitorEntries.any fun m => s.tables.monitor[m].enabled && (Updates.value u s.tables.monitor[m].source).isSome

/-- Another block and the monitor react to one update (R45, R46). Where a pass would be made, their order is free (notes 8 and 9);
where none would, only the other block reacts. -/
def State.withMonitor (s : State) (u : Updates) (other : State → State) : State :=
  if s.running && s.watches u then s.unordered2 other (State.monitorPass u) else other s

end Sys2Proof.Machine
end

