-- ==== Sys2Proof/Machine/Slide.lean ====
section
/-! DEFINITION. The slide controller: evaluation of good entries, the slide cycle, the adhesion ceiling, truck relief requests and
their lockout (R105 to R121). -/

namespace Sys2Proof.Machine

/-- A good entry as it is handed on (R45): axle, new speed, deceleration, trend, recovery turn, elapsed time from the previous
stamp in µs. -/
structure GoodEntry where
  axle : AxleSlot
  speed : Nat
  decel : Int
  trend : Trend
  turn : Bool
  gap : Int
  deriving DecidableEq, Repr

/-! ## Slip (R107) -/

/-- The slip: the reference value minus the axle's speed, or 0 when that is negative. -/
def slipOf (ref speed : Nat) : Nat := ref - speed

/-- The slip per mille of the reference value, rounded down; 0 when the reference value is 0. -/
def slipPerMille (ref speed : Nat) : Nat := if ref = 0 then 0 else slipOf ref speed * 1000 / ref

/-- The axle at rest: NORMAL, no limit, no ceiling, counts 0, hold timer stopped; the latest slip is kept (R108). -/
def AxleSlide.rest (a : AxleSlide) : AxleSlide :=
  { a with state := .normal, onset := 0, limit := none, ceiling := none, holdTimer := none, cycles := 0 }

/-- The onset condition of an entry (R110). -/
def onsetMet (set : SlideSet) (ref : Nat) (g : GoodEntry) : Bool :=
  decide (set.slipOnset ≤ slipPerMille ref g.speed) || decide (set.absoluteOnset ≤ slipOf ref g.speed)
    || decide ((set.decelOnset : Int) ≤ g.decel)

/-- A factor in 256ths of an effort, rounded down. -/
def scaled (v factor : Nat) : Nat := v * factor / 256

/-- A rate in units per second over a time in µs, rounded down. -/
def grown (rate : Nat) (us : Int) : Nat := rate * us.toNat / 1000000

/-- The smaller of two ceilings, the old one optional. -/
def lowerCeiling (old : Option Nat) (v : Nat) : Nat := match old with | none => v | some c => min c v

/-- An entry into RELIEF counts a cycle; the count stays at 255 once there (R116). -/
def countCycle (a : AxleSlide) : Nat := bump 255 a.cycles

/-! ## The slide cycle -/

/-- An adhesion ceiling raised in NORMAL, removed at the axle effort limit; a raise of 0 leaves it as it stands (R112). -/
def raisedCeiling (axleLimit raise c : Nat) : Option Nat :=
  if raise = 0 then some c else if axleLimit ≤ c + raise then none else some (c + raise)

/-- NORMAL: the onset count moves, the axle enters RELIEF when it reaches the setting, and otherwise a ceiling recovers
(R110, R111, R112). `y` is the axle's output. -/
def evalNormal (set : SlideSet) (axleLimit ref y : Nat) (g : GoodEntry) (a : AxleSlide) : AxleSlide :=
  let n := if onsetMet set ref g then a.onset + 1 else 0
  if onsetMet set ref g ∧ set.onsetCount ≤ n then
    let c := lowerCeiling a.ceiling (scaled y set.ceilingFactor)
    { a with state := .relief, onset := 0, ceiling := some c, limit := some (min (scaled y set.reliefFactor) c), cycles := 1 }
  else
    { a with
      onset := n
      ceiling :=
        if slipPerMille ref g.speed ≤ set.slipRelease then
          a.ceiling.bind (raisedCeiling axleLimit (grown set.recoveryRate g.gap))
        else a.ceiling }

/-- The slide limit deepened by the relief factor (R113, R114). -/
def deepened (set : SlideSet) (a : AxleSlide) : Option Nat := a.limit.map fun l => scaled l set.reliefFactor

/-- HOLD with its timer started (R113). -/
def AxleSlide.toHold (set : SlideSet) (now : Count) (a : AxleSlide) : AxleSlide :=
  { a with state := .hold, holdTimer := startTimer now set.holdTime }

/-- RELIEF: the first case that applies decides (R113). -/
def evalRelief (set : SlideSet) (now : Count) (ref : Nat) (g : GoodEntry) (a : AxleSlide) : AxleSlide :=
  if g.turn then a.toHold set now
  else if onsetMet set ref g ∧ g.trend ≠ .accel then { a with limit := deepened set a }
  else if slipPerMille ref g.speed ≤ set.slipRelease then a.toHold set now
  else a

/-- HOLD: an entry that meets the onset condition returns the axle to RELIEF (R114). -/
def evalHold (set : SlideSet) (ref : Nat) (g : GoodEntry) (a : AxleSlide) : AxleSlide :=
  if onsetMet set ref g then
    { a with state := .relief, limit := deepened set a, cycles := countCycle a, holdTimer := none }
  else a

/-- REAPPLY: an entry that meets the onset condition returns the axle to RELIEF under a lowered ceiling; another raises the limit,
to NORMAL at the ceiling (R115). -/
def evalReapply (set : SlideSet) (ref y : Nat) (g : GoodEntry) (a : AxleSlide) : AxleSlide :=
  if onsetMet set ref g then
    let c := lowerCeiling a.ceiling (scaled y set.ceilingFactor)
    { a with
      state := .relief, ceiling := some c
      limit := some (min (scaled (min (a.limit.getD y) y) set.reliefFactor) c)
      cycles := countCycle a }
  else
    let raised := (a.limit.getD 0) + grown set.reapplyRate g.gap
    if a.ceiling.all (fun c => decide (c ≤ raised)) then { a with state := .normal, limit := none, cycles := 0 }
    else { a with limit := some raised }

/-- The rule of the axle's slide state, in an active evaluation (R110 to R115). -/
def evalActive (set : SlideSet) (axleLimit : Nat) (now : Count) (ref y : Nat) (g : GoodEntry) (a : AxleSlide) : AxleSlide :=
  match a.state with
  | .normal => evalNormal set axleLimit ref y g a
  | .relief => evalRelief set now ref g a
  | .hold => evalHold set ref g a
  | .reapply => evalReapply set ref y g a

/-- The evaluation of a good entry is active (R108). -/
def State.evaluationActive (s : State) (i : AxleSlot) : Bool :=
  s.running && s.speed.ref.state == .valid && decide (s.tables.slide.minSpeed ≤ s.speed.ref.value)
    && s.speed.axles[i].validity == .valid

/-- The latest slip is stored (R107). -/
def AxleSlide.withSlip (v : Nat) (a : AxleSlide) : AxleSlide := { a with slip := v }

/-- The slip per mille of a good entry is stored as the axle's latest slip, in every part state (R107). -/
def State.storeSlip (g : GoodEntry) (s : State) : State :=
  s.onAxleSlide g.axle (AxleSlide.withSlip (slipPerMille s.speed.ref.value g.speed))

/-- The slide part after a good entry, its latest slip already stored (R108). -/
def State.evaluated (s : State) (g : GoodEntry) : AxleSlide :=
  let a := s.slide.axles[g.axle]
  if s.evaluationActive g.axle then
    evalActive s.tables.slide s.tables.blend.axleLimit s.now s.speed.ref.value s.blend.axles[g.axle].output g a
  else a.rest

/-- An entry into RELIEF from another state has made the cycle count equal to the cycle limit (R116). -/
def persists (set : SlideSet) (old new : AxleSlide) : Bool :=
  decide (old.state ≠ .relief) && new.state == .relief && new.cycles == set.cycleLimit

/-- The slide controller judges a good entry handed on; SLIDE_PERSISTENT and its trigger follow an entry into RELIEF at the
cycle limit (R108 to R116). -/
def State.evaluateSlide (g : GoodEntry) (s : State) : State :=
  let old := s.slide.axles[g.axle]
  let new := s.evaluated g
  let s1 := s.onAxleSlide g.axle fun _ => new
  if persists s.tables.slide old new then (s1.raise (.slidePersistent g.axle)).trigger (.slidePersistent g.axle) else s1

/-- The monitor's update of an axle's slip source (R107, Table 9-2). -/
def State.slipUpdates (s : State) (g : GoodEntry) : Updates :=
  [(.axleSlip g.axle, (slipPerMille s.speed.ref.value g.speed : Int))]

/-- A good entry is handed on to the slide controller and the condition monitor (R45). The slip is formed and stored first
(R107); where the monitor watches it, the order of the evaluation and the pass is free (note 9). -/
def State.handOn (s : State) (g : GoodEntry) : State :=
  (State.storeSlip g s).withMonitor (s.slipUpdates g) (State.evaluateSlide g)

/-- An axle whose validity leaves VALID is returned to its rest (R109). -/
def State.restAxle (i : AxleSlot) (s : State) : State := s.onAxleSlide i AxleSlide.rest

/-- The axle after its hold timer's expiry, judged on its latest slip (R114). -/
def holdExpired (set : SlideSet) (now : Count) (a : AxleSlide) : AxleSlide :=
  if a.slip ≤ set.slipRelease then
    match a.limit, a.ceiling with
    | some l, some c =>
      if l < c then { a with state := .reapply, holdTimer := none }
      else { a with state := .normal, limit := none, cycles := 0, holdTimer := none }
    | _, _ => { a with state := .normal, limit := none, cycles := 0, holdTimer := none }
  else { a with holdTimer := startTimer now set.holdTime }

/-! ## Truck relief requests (R118 to R120) -/

/-- The axles of a truck (00_scope section 6). -/
def axlesOf (t : TruckSlot) : List AxleSlot := if t = 0 then [0, 1, 2] else [3, 4, 5]

/-- The axle is in RELIEF. -/
def State.inRelief (s : State) (i : AxleSlot) : Bool := s.slide.axles[i].state == .relief

/-- The axle is in RELIEF or HOLD. -/
def State.inReliefOrHold (s : State) (i : AxleSlot) : Bool :=
  s.slide.axles[i].state == .relief || s.slide.axles[i].state == .hold

/-- The pressure held for a truck's valve unit is above the truck's dead pressure, whatever the unit's state (R118). -/
def State.underAir (s : State) (t : TruckSlot) : Bool :=
  match (s.node (valveOf t)).achieved with
  | none => false
  | some p => decide (s.tables.truck[t].dead < p)

/-- The wanted request of a truck (R118). -/
def State.wantedRelief (s : State) (t : TruckSlot) : Relief :=
  if 2 ≤ (axlesOf t).countP (fun i => s.inRelief i)
      ∨ ((axlesOf t).any fun i => s.inRelief i && s.blend.axles[i].output == 0) ∧ s.underAir t then .vent
  else if (axlesOf t).any fun i => s.inReliefOrHold i then .hold
  else .calm

/-- A truck slide record at an epoch: the wanted request passed through the lockout (R119, R120). -/
def TruckSlide.form (lockout : Nat) (now : Count) (wanted : Relief) (anyRelief : Bool) (t : TruckSlide) : TruckSlide :=
  if t.lockedOut then { request := .calm, timer := none, lockedOut := anyRelief }
  else
    { request := wanted, lockedOut := false
      timer := if wanted = .calm then none
        else if t.request = .calm then startTimer now lockout
        else t.timer }

/-- Stage 2 of an epoch: the relief request of each truck is formed (R118 to R120). -/
def State.formRelief (s : State) : State :=
  { s with slide := { s.slide with
      trucks := vec2 fun t =>
        (s.slide.trucks[t]).form s.tables.slide.lockoutTime s.now (s.wantedRelief t) ((axlesOf t).any fun i => s.inRelief i) } }

/-- A truck slide record at its lockout timer's expiry: the flag is set, the request stands (R120). -/
def TruckSlide.lockOut (t : TruckSlide) : TruckSlide := { t with timer := none, lockedOut := true }

end Sys2Proof.Machine
end

