-- ==== Sys2Proof/Machine/Blend.lean ====
section
/-! DEFINITION. The blend engine: capability and availability, the ten stages of the target computation, the ramp stage, the
effort publication and the epoch (R66 to R104). -/

namespace Sys2Proof.Machine

/-! ## Capability and availability (R72 to R74) -/

/-- Interpolation between two points, rounded toward negative infinity (R72). -/
def interpolate (p q : CurvePoint) (v : Nat) : Int :=
  (p.effort : Int) + (((q.effort : Int) - p.effort) * ((v : Int) - p.speed)).fdiv ((q.speed : Int) - p.speed)

/-- The curve read at a speed: the last point's effort at or above its speed, an interpolation between the last point at or below
the speed and the next one otherwise (R72). -/
def readCurve : List CurvePoint → Nat → Int
  | [], _ => 0
  | [p], _ => p.effort
  | p :: q :: rest, v => if v < q.speed then interpolate p q v else readCurve (q :: rest) v

/-- The capability curve: the first point-count points (R67). -/
def CurveTable.curve (c : CurveTable) : List CurvePoint := c.points.toList.take c.count

/-- The capability at a speed, clamped to 0..axle effort limit (R72). -/
def capability (c : CurveTable) (axleLimit v : Nat) : Nat := min (readCurve c.curve v).toNat axleLimit

/-- The derating factor of an inverter, in 256ths (R73). -/
def derating (degraded : Nat) (present : Bool) (st : NodeState) : Nat :=
  if present then
    match st with
    | .active => 256
    | .degraded => degraded
    | .absent | .joining | .lost | .cutOut => 0
  else 0

/-- A value reduced to a limit when the limit is present (R74). -/
def limited (v : Nat) (l : Option Nat) : Nat := match l with | none => v | some x => min v x

/-- The availability of an axle at a speed, the reference not INVALID (R73, R74). -/
def State.availabilityAt (s : State) (v : Nat) (i : AxleSlot) : Nat :=
  let base := capability s.tables.curve s.tables.blend.axleLimit v
    * derating s.tables.blend.degraded s.tables.node[inverterOf i].present (s.node (inverterOf i)).sup.state / 256
  limited (limited (limited base s.slide.axles[i].limit) s.slide.axles[i].ceiling) (s.node (inverterOf i)).cap

/-- The availability of an axle: 0 at every speed when the reference is INVALID (R74). -/
def State.availability (s : State) (v : Nat) (i : AxleSlot) : Nat :=
  if s.speed.ref.state = .invalid then 0 else s.availabilityAt v i

/-- The speed V: the reference value, taken as 0 when the reference is INVALID (R74). -/
def State.epochSpeed (s : State) : Nat := if s.speed.ref.state = .invalid then 0 else s.speed.ref.value

/-- The lead drop, from the deceleration estimate (R76). -/
def leadDrop (estimate : Int) (airLead : Nat) : Nat := estimate.toNat * airLead / 1000

/-- The predicted speed, 0 when it would be negative or the reference is INVALID (R74, R76). -/
def State.predictedSpeed (s : State) : Nat := s.epochSpeed - leadDrop s.speed.ref.estimate s.tables.blend.airLead

/-- The sum of six values. -/
def sum6 (f : AxleSlot → Nat) : Nat := f 0 + f 1 + f 2 + f 3 + f 4 + f 5

/-! ## Demanded effort and air (R75 to R82) -/

/-- The mode used: BLENDED and DYNAMIC_ONLY are used as AIR_ONLY while the air-fallback flag is set (R75). -/
def modeUsed (m : Mode) (fallback : Bool) : Mode :=
  match m with
  | .blended | .dynamicOnly => if fallback then .airOnly else m
  | .release | .airOnly | .emergency => m

/-- The demanded effort (R75). -/
def demandedEffort (m : Mode) (level fullService : Nat) : Nat :=
  match m with
  | .dynamicOnly | .blended | .airOnly => level * fullService / 1000
  | .release => 0
  | .emergency => fullService

/-- The air target (R77). -/
def airTarget (m : Mode) (demanded sumPred : Nat) : Nat :=
  match m with
  | .blended => demanded - min demanded sumPred
  | .airOnly => demanded
  | .dynamicOnly | .release | .emergency => 0

/-- The effort of a pressure on a truck: what lies above dead pressure times the gain in sixty-fourths, rounded down. -/
def effortOf (t : TruckEntry) (pressure : Nat) : Nat := (pressure - t.dead) * t.gain / 64

/-- A truck is eligible for a share of the air target (R78). -/
def eligibleTruck (t : TruckEntry) (valve : Bool) (r : Relief) : Bool := t.airPresent && valve && decide (r ≠ .vent)

/-- The largest share a truck may take (R78); `output` is its pressure output before this epoch's ramp. -/
def truckCap (t : TruckEntry) (r : Relief) (output : Nat) : Nat :=
  if r = .hold then min (effortOf t t.maximum) (effortOf t output) else effortOf t t.maximum

/-- The shares of the two trucks (R79). -/
def split (target : Nat) (e1 e2 : Bool) (c1 c2 : Nat) : Nat × Nat :=
  match e1, e2 with
  | true, true =>
    let f1 := (target + 1) / 2
    let f2 := target - f1
    (min (f1 + (f2 - c2)) c1, min (f2 + (f1 - c1)) c2)
  | true, false => (min target c1, 0)
  | false, true => (0, min target c2)
  | false, false => (0, 0)

/-- A quotient rounded up. -/
def divUp (a b : Nat) : Nat := (a + b - 1) / b

/-- The share target of a truck (R81, case 3). -/
def sharePressure (t : TruckEntry) (share : Nat) : Nat :=
  if share = 0 then 0 else min (t.dead + divUp (share * 64) t.gain) t.maximum

/-- The pressure target of a truck (R81). -/
def pressureTarget (t : TruckEntry) (m : Mode) (r : Relief) (share floor output : Nat) : Nat :=
  let base :=
    if r = .vent then 0
    else if m = .emergency then t.emergency
    else max (sharePressure t share) (min floor t.maximum)
  if r = .hold then min base output else base

/-- The achieved air of one truck (R82). -/
def State.truckAir (s : State) (t : TruckSlot) : Nat :=
  if s.nodeInService (valveOf t) then
    match (s.node (valveOf t)).achieved with
    | none => 0
    | some p => effortOf s.tables.truck[t] p
  else 0

/-! ## Dynamic effort (R83 to R85) -/

/-- The dynamic target (R83). -/
def dynamicTarget (m : Mode) (demanded sumNow airAchieved fullService : Nat) (dynInEmergency : Bool) : Nat :=
  match m with
  | .blended => min sumNow (demanded - min demanded airAchieved)
  | .dynamicOnly => min sumNow demanded
  | .airOnly | .release => 0
  | .emergency => if dynInEmergency then min sumNow fullService else 0

/-- The first target of an axle, rounded down (R84). -/
def firstTarget (dyn sumNow avail : Nat) : Nat := if sumNow = 0 then 0 else dyn * avail / sumNow

/-- The remainder goes, one unit each, to the first axles in slot order whose availability is above their first target (R84). -/
def giveRemainder : Nat → List (Nat × Nat) → List Nat
  | _, [] => []
  | 0, (_, t) :: rest => t :: giveRemainder 0 rest
  | r + 1, (a, t) :: rest => if t < a then (t + 1) :: giveRemainder r rest else t :: giveRemainder (r + 1) rest

/-- The six axle targets (R84). -/
def distribute (dyn : Nat) (avail : AxleSlot → Nat) : List Nat :=
  let sumNow := sum6 avail
  let first := fun i => firstTarget dyn sumNow (avail i)
  if sumNow = 0 then [0, 0, 0, 0, 0, 0]
  else giveRemainder (dyn - sum6 first) (axleSlots.map fun i => (avail i, first i))

/-- The achieved effort of one axle's inverter, counted only in service (R85). -/
def State.achievedEffort (s : State) (i : AxleSlot) : Nat :=
  if s.nodeInService (inverterOf i) then (s.node (inverterOf i)).achieved.getD 0 else 0

/-! ## The target computation -/

/-- The results of the target computation of one epoch. -/
structure Targets where
  mode : Mode
  totals : Totals
  trucks : Vector Nat 2
  axles : Vector Nat 6
  deriving DecidableEq, Repr

/-- The mode used at an epoch taken now (R75). -/
def State.modeUsed (s : State) : Mode := Machine.modeUsed s.demand.eff.mode s.blend.fallback

/-- The shares of the trucks for an air target (R78, R79). -/
def State.shares (s : State) (target : Nat) : Nat × Nat :=
  split target
    (eligibleTruck s.tables.truck[0] (s.nodeInService 6) s.slide.trucks[0].request)
    (eligibleTruck s.tables.truck[1] (s.nodeInService 7) s.slide.trucks[1].request)
    (truckCap s.tables.truck[0] s.slide.trucks[0].request s.blend.trucks[0].output)
    (truckCap s.tables.truck[1] s.slide.trucks[1].request s.blend.trucks[1].output)

/-- The ten stages of the target computation, relief requests already formed (R71 stage 3). -/
def State.targets (s : State) : Targets :=
  let b := s.tables.blend
  let mode := s.modeUsed
  let demanded := demandedEffort mode s.demand.eff.level b.fullService
  let avail := s.availability s.epochSpeed
  let sumNow := sum6 avail
  let sumPred := sum6 (s.availability s.predictedSpeed)
  let air := airTarget mode demanded sumPred
  let shares := s.shares air
  let airAch := s.truckAir 0 + s.truckAir 1
  let dyn := dynamicTarget mode demanded sumNow airAch b.fullService b.dynInEmergency
  let axleTargets := distribute dyn avail
  let dynAch := sum6 s.achievedEffort
  { mode := mode
    totals :=
      { demanded := demanded, dynamic := dyn, airTarget := air, airAchieved := airAch
        unplaced := air - (shares.1 + shares.2), dynamicAchieved := dynAch
        shortfall := demanded - min demanded (dynAch + airAch) }
    trucks := vec2 fun t =>
      pressureTarget s.tables.truck[t] mode s.slide.trucks[t].request (if t = 0 then shares.1 else shares.2)
        s.demand.eff.floor s.blend.trucks[t].output
    axles := vec6 fun i => axleTargets.getD i.val 0 }

/-! ## The ramp stage (R95 to R102) -/

/-- A rate per second over an epoch interval in ms, rounded down (R95). -/
def rampStep (rate interval : Nat) : Nat := rate * interval / 1000

/-- The wanted slope of a rise (R96). -/
def wantedSlope (set : RampSet) (interval target output : Nat) : Nat :=
  min set.application (divUp ((target - output) * 1000) interval)

/-- The new slope of a rise: the wanted slope, its growth limited by the jerk unless the jerk is 0 (R96). -/
def newSlope (set : RampSet) (interval target output slope : Nat) : Nat :=
  if set.jerk = 0 then wantedSlope set interval target output
  else min (wantedSlope set interval target output) (slope + rampStep set.jerk interval)

/-- An axle output at the ramp stage: the first case that applies decides (R95). -/
def rampAxle (set : RampSet) (interval : Nat) (bypass relief : Bool) (target : Nat) (a : AxleDrive) : AxleDrive :=
  if bypass then { target := target, output := 0, slope := 0 }
  else if relief then { target := target, output := min a.output target, slope := 0 }
  else if a.output < target then
    let g := newSlope set interval target a.output a.slope
    { target := target, output := min target (a.output + rampStep g interval), slope := g }
  else if target < a.output then
    { target := target, output := max target (a.output - rampStep set.release interval), slope := 0 }
  else { target := target, output := a.output, slope := 0 }

/-- A truck pressure output at the ramp stage: the first case that applies decides (R100). -/
def rampTruck (set : RampSet) (interval : Nat) (mode : Mode) (r : Relief) (emergency target : Nat) (t : TruckDrive) : TruckDrive :=
  if r = .vent then { target := target, output := 0 }
  else if mode = .emergency ∧ r = .calm then { target := target, output := emergency }
  else if t.output < target then { target := target, output := min target (t.output + rampStep set.airApplication interval) }
  else if target < t.output then { target := target, output := max target (t.output - rampStep set.airRelease interval) }
  else { target := target, output := t.output }

/-- The inverter of an axle is not in service: the node bypass applies (R98). -/
def State.nodeBypass (s : State) (i : AxleSlot) : Bool := !s.nodeInService (inverterOf i)

/-- The ramp stage of an epoch, with the epoch's targets (R95). -/
def State.ramp (t : Targets) (interval : Nat) (s : State) : State :=
  { s with blend := { s.blend with
      axles := vec6 fun i =>
        rampAxle s.tables.ramp interval (s.nodeBypass i) (s.inRelief i) t.axles[i] s.blend.axles[i]
      trucks := vec2 fun k =>
        rampTruck s.tables.ramp interval t.mode s.slide.trucks[k].request s.tables.truck[k].emergency t.trucks[k]
          s.blend.trucks[k] } }

/-! ## The epoch (R68 to R71, R80, R86, R87) -/

/-- The epoch interval in ms (R70): the epoch period for a regular epoch; for an extra one the time from the last epoch of the
stay (or from RUN entry, whose time the initial publication holds) in whole ms, and 1 when that gives 0. -/
def State.epochInterval (s : State) (k : EpochKind) : Nat :=
  match k with
  | .regular => s.tables.blend.period
  | .extra => max 1 ((elapsed s.blend.pub.time s.now).toNat / 1000)

/-- Stage 6's event: unplaced air after an epoch with none raises AIR_UNPLACED, and it is kept for the next epoch (R80). -/
def State.noteUnplaced (unplaced : Nat) (s : State) : State :=
  let s1 := if s.blend.prevUnplaced = 0 ∧ 0 < unplaced then s.raise .airUnplaced else s
  { s1 with blend := { s1.blend with prevUnplaced := unplaced } }

/-- The effort publication of an epoch, its outputs already ramped (R86). -/
def State.publication (s : State) (k : EpochKind) (interval : Nat) (t : Targets) : Publication :=
  { epoch := s.blend.epoch, time := s.now, kind := k, interval := interval
    demand := s.demand.eff, fallback := s.blend.fallback
    refValue := s.speed.ref.value, refState := s.speed.ref.state, estimate := s.speed.ref.estimate
    totals := t.totals
    trucks := vec2 fun i =>
      { target := s.blend.trucks[i].target, output := s.blend.trucks[i].output, relief := s.slide.trucks[i].request }
    axles := vec6 fun i => { target := s.blend.axles[i].target, output := s.blend.axles[i].output } }

/-- Stages 1 and 2 of an epoch: the epoch number is incremented and the relief requests are formed (R71). -/
def State.beginEpoch (s : State) : State :=
  State.formRelief { s with blend := { s.blend with epoch := s.blend.epoch + 1 } }

/-- Stages 1 to 5 of an epoch: computation, ramps and publication, before the other blocks react (R71). -/
def State.computeEpoch (k : EpochKind) (s : State) : State :=
  let interval := s.epochInterval k
  let s1 := s.beginEpoch
  let t := s1.targets
  let s2 := (s1.noteUnplaced t.totals.unplaced).ramp t interval
  { s2 with blend := { s2.blend with pub := s2.publication k interval t } }

/-- The condition monitor's reaction to a publication (R87). -/
def State.monitorPublication (s : State) : State := s.monitorPass s.publicationUpdates

/-- The three reactions to a publication, in an order the part is free to take (R87; free value, note 6). -/
def State.reactToPublication (s : State) : State :=
  s.unordered3 State.orderAll State.takeSnapshot State.monitorPublication

/-- An epoch, taken whole (R71). -/
def State.takeEpoch (k : EpochKind) (s : State) : State := (s.computeEpoch k).reactToPublication

end Sys2Proof.Machine
end

