-- ==== Sys2Proof/Machine/Demand.lean ====
section
/-! DEFINITION. The demand intake: demand frames, loss and penalty, the effective demand and the emergency latch (R54 to R65). -/

namespace Sys2Proof.Machine

/-! ## Contributions (R59) -/

/-- A contribution to the effective demand: mode, level, and where it comes from. -/
structure Contribution where
  mode : Mode
  level : Nat
  origin : DemandOrigin
  deriving DecidableEq, Repr

/-- The origin that names a source. -/
def originOf (d : SourceSlot) : DemandOrigin := if d = 0 then .source0 else .source1

/-- A source is required: source 0 always, source 1 when protection is required (R59). -/
def required (d : SourceSlot) (protection : Bool) : Bool := decide (d = 0) || protection

/-- The contribution of a source record (Table 4-4). A CURRENT EMERGENCY acts through the latch (R61). -/
def contribution (b : BlendSet) (d : SourceSlot) (r : SourceRec) : Option Contribution :=
  match r.state, r.payload with
  | .never, _ => none
  | .current, none => none
  | .current, some p => some ⟨p.mode, if p.mode = .release then 0 else p.level, originOf d⟩
  | .lost, _ => if required d b.protection then some ⟨.blended, b.penalty, .penalty⟩ else none

/-- The source is CURRENT with last mode EMERGENCY. -/
def demandsEmergency (r : SourceRec) : Bool :=
  decide (r.state = .current) && r.payload.any fun p => decide (p.mode = .emergency)

/-- A source is CURRENT with last mode EMERGENCY. -/
def State.emergencyDemanded (s : State) : Bool :=
  demandsEmergency s.demand.sources[0] || demandsEmergency s.demand.sources[1]

/-! ## The effective demand (R60 to R62) -/

/-- The effective floor: source 0's last floor when it is CURRENT or LOST and has sent one, and 0 otherwise (R60; DEDUCED for a
source LOST before its first frame, note 16). -/
def effectiveFloor (r : SourceRec) : Nat :=
  match r.state, r.payload with
  | .never, _ => 0
  | _, none => 0
  | _, some p => p.floor

/-- The contribution that sets mode and level: the higher level, source 0 on equal levels (Table 4-6). -/
def winner (c0 c1 : Option Contribution) : Contribution :=
  match c0, c1 with
  | none, none => ⟨.release, 0, .source0⟩
  | some a, none => a
  | none, some b => b
  | some a, some b => if a.level < b.level then b else a

/-- The reference is at standstill: VALID with value 0 (section 7 of 00_scope). -/
def State.standstill (s : State) : Bool := decide (s.speed.ref.state = .valid) && s.speed.ref.value == 0

/-- The emergency latch may clear (R62). -/
def State.latchMayClear (s : State) : Bool :=
  !s.emergencyDemanded && (s.standstill || decide (s.speed.ref.state = .invalid))

/-- The latch after it has been judged (R62). -/
def State.judgedLatch (s : State) : Bool := s.demand.eff.latch && !s.latchMayClear

/-- The origin in EMERGENCY (R61). -/
def State.emergencyOrigin (s : State) : DemandOrigin :=
  if demandsEmergency s.demand.sources[0] then .source0
  else if demandsEmergency s.demand.sources[1] then .source1
  else s.demand.eff.origin

/-- The effective demand formed anew (R60, R61). -/
def State.formDemand (s : State) : EffDemand :=
  let floor := effectiveFloor s.demand.sources[0]
  if s.judgedLatch || s.emergencyDemanded then
    { mode := .emergency, level := 1000, floor := floor, origin := s.emergencyOrigin, latch := true }
  else
    let c := winner (contribution s.tables.blend 0 s.demand.sources[0]) (contribution s.tables.blend 1 s.demand.sources[1])
    { mode := c.mode, level := c.level, floor := floor, origin := c.origin, latch := false }

/-- The effective demand is replaced. -/
def State.setEff (e : EffDemand) (s : State) : State := { s with demand := { s.demand with eff := e } }

/-- The extra epoch asked for on entry into EMERGENCY, taken if the part is in RUN (R69). -/
def State.extraEpoch (s : State) : State := if s.running then s.takeEpoch .extra else s

/-- An entry into EMERGENCY hands an event, a trigger and an extra epoch over together, in an order the part is free to take
(R63; free value, note 7). -/
def State.enterEmergency (s : State) : State :=
  s.unordered3 (State.raise .emergencyEntered) (State.trigger .emergencyEntry) State.extraEpoch

/-- A recomputation of the effective demand (R60, R63). -/
def State.recompute (s : State) : State :=
  let s1 := s.setEff s.formDemand
  if s.demand.eff.mode ≠ .emergency ∧ s1.demand.eff.mode = .emergency then s1.enterEmergency else s1

/-- The latch is judged at a reference update, in RUN; when it clears the effective demand is formed anew (R62). -/
def State.judgeLatch (s : State) : State :=
  if s.running ∧ s.demand.eff.latch ∧ s.latchMayClear then s.setEff s.formDemand else s

/-! ## Demand frames (R55 to R57) -/

/-- The mode of a mode byte; none above 4 (Table 1-4). -/
def modeOf (n : Nat) : Option Mode :=
  match n with
  | 0 => some .release
  | 1 => some .dynamicOnly
  | 2 => some .blended
  | 3 => some .airOnly
  | 4 => some .emergency
  | _ => none

/-- The payload stored for an accepted frame, level and floor clamped (R57). -/
def demandPayload (m : Mode) (p : List Byte) : DemandPayload :=
  { mode := m, level := min (ofBytes ((p.drop 1).take 2)) 1000, floor := min (ofBytes ((p.drop 3).take 2)) 500 }

/-- The frame is a duplicate: the source is CURRENT and the sequence is the last accepted one (R55). -/
def isDuplicate (r : SourceRec) (seq : Byte) : Bool := decide (r.state = .current) && decide (r.seq = some seq)

/-- The source record after an accepted frame (R57). -/
def acceptedSource (seq : Byte) (p : DemandPayload) (stamp now : Count) (lossTime : Nat) : SourceRec :=
  { state := .current, seq := some seq, payload := some p, stamp := stamp, timer := startTimer now lossTime }

/-- A demand frame handed to the intake (R55 to R57). -/
def takeDemand (d : SourceSlot) (stamp : Count) (f : Frame) (s : State) : State :=
  let p := framePayload f
  if p.length ≠ 5 then s.countDemandRefused
  else
    match modeOf (byteAt p 0).toNat with
    | none => s.countDemandRefused
    | some m =>
      if isDuplicate s.demand.sources[d] (frameSeq f) then s
      else
        State.recompute (s.onSource d fun _ =>
          acceptedSource (frameSeq f) (demandPayload m p) stamp s.now s.tables.blend.demandLoss)

/-- A source whose loss timer has expired: LOST, the rest kept, the timer stopped (R58). -/
def SourceRec.lose (r : SourceRec) : SourceRec := { r with state := .lost, timer := none }

/-- The expiry of a source's loss timer (R58). -/
def State.loseSource (d : SourceSlot) (s : State) : State :=
  State.recompute (((s.onSource d SourceRec.lose).raise (.demandLost d)).trigger (.demandLost d))

end Sys2Proof.Machine
end

