-- ==== Sys2Proof/Machine/Speed.lean ====
section
/-! DEFINITION. The speed unit: sample frames, speed conversion, deceleration, trend, validity, and the reference speed record
(R36 to R52). -/

namespace Sys2Proof.Machine

/-! ## One good entry (R41 to R44) -/

/-- A raw sample entry (Table 1-5). -/
structure RawEntry where
  slot : Nat
  status : Nat
  pulses : Nat
  interval : Nat
  deriving DecidableEq, Repr

/-- The entries of a sample payload, five bytes each. -/
def rawEntries : List Byte → List RawEntry
  | a :: b :: c :: d :: e :: rest => ⟨a.toNat, b.toNat, c.toNat, ofBytes [d, e]⟩ :: rawEntries rest
  | _ => []

/-- A number clamped to a range. -/
def clampInt (lo hi v : Int) : Int := max lo (min hi v)

/-- Pulses over an interval as a speed, rounded down and saturated at 20000; 0 pulses are speed 0 (R41). -/
def axleSpeedOf (pulse pulses interval : Nat) : Nat :=
  if pulses = 0 then 0 else min (pulses * pulse * 360 / interval) 20000

/-- A good entry has a deceleration basis (R42). -/
def hasBasis (ageLimit : Nat) (a : AxleSpeed) (stamp : Count) : Bool :=
  decide (a.validity ≠ .unknown) && decide (0 < elapsed a.stamp stamp)
    && decide (elapsed a.stamp stamp ≤ (ageLimit * 1000 : Nat))

/-- The axle deceleration with a basis (R42). -/
def decelOf (old new : Nat) (gap : Int) : Int := clampInt (-30000) 30000 ((((old : Int) - new) * 1000000).tdiv gap)

/-- The trend of a deceleration (R43). -/
def trendOf (band : Nat) (decel : Int) : Trend :=
  if (band : Int) < decel then .decel else if decel < -(band : Int) then .accel else .flat

/-- The deceleration of a good entry, 0 without a basis (R42). -/
def entryDecel (set : SpeedSet) (a : AxleSpeed) (new : Nat) (stamp : Count) : Int :=
  if hasBasis set.ageLimit a stamp then decelOf a.speed new (elapsed a.stamp stamp) else 0

/-- The trend of a good entry, FLAT without a basis (R43). -/
def entryTrend (set : SpeedSet) (a : AxleSpeed) (new : Nat) (stamp : Count) : Trend :=
  if hasBasis set.ageLimit a stamp then trendOf set.trendBand (entryDecel set a new stamp) else .flat

/-- The last non-flat trend after a good entry (R43). -/
def nextLastTrend (basis : Bool) (trend : Trend) (last : Option Trend) : Option Trend :=
  if basis then (if trend = .flat then last else some trend) else none

/-- A recovery turn: with a basis, ACCEL after DECEL (R43). -/
def isTurn (basis : Bool) (trend : Trend) (last : Option Trend) : Bool :=
  basis && decide (trend = .accel) && decide (last = some .decel)

/-- The axle record after a good entry (R41 to R44). -/
def AxleSpeed.good (set : SpeedSet) (now : Count) (new : Nat) (stamp : Count) (a : AxleSpeed) : AxleSpeed :=
  let trend := entryTrend set a new stamp
  { a with
    speed := new, stamp := stamp, prevStamp := a.stamp
    decel := entryDecel set a new stamp, trend := trend
    lastTrend := nextLastTrend (hasBasis set.ageLimit a stamp) trend a.lastTrend
    validity := .valid, ageTimer := startTimer now set.ageLimit }

/-- What is handed on of a good entry (R45). -/
def goodEntry (set : SpeedSet) (i : AxleSlot) (new : Nat) (stamp : Count) (a : AxleSpeed) : GoodEntry :=
  let trend := entryTrend set a new stamp
  { axle := i, speed := new, decel := entryDecel set a new stamp, trend := trend
    turn := isTurn (hasBasis set.ageLimit a stamp) trend a.lastTrend, gap := elapsed a.stamp stamp }

/-- The axle record after a fault entry (R40). -/
def AxleSpeed.fault (a : AxleSpeed) : AxleSpeed := { a with validity := .faulted, ageTimer := none }

/-! ## Judging entries (R39) -/

/-- What became of an entry. -/
inductive Outcome5 where
  | refused
  | fault
  | good (g : GoodEntry)
  deriving DecidableEq, Repr

/-- The entry passes checks 3 to 6 of Table 3-3 against its axle's record. -/
def entryPasses (a : AxleSpeed) (e : RawEntry) (stamp : Count) : Bool :=
  a.enabled && decide (e.status ≤ 1) && !(e.status == 0 && decide (0 < e.pulses) && e.interval == 0)
    && !(decide (elapsed a.stamp stamp < 0) && decide (a.validity = .valid))

/-- The axle slot of an entry, when it passes checks 1 and 2 of Table 3-3: inside the permitted range, and not the slot of an
earlier entry of the frame. -/
def entrySlot (first last : AxleSlot) (seen : List Nat) (slot : Nat) : Option AxleSlot :=
  if h : first.val ≤ slot ∧ slot ≤ last.val ∧ slot ∉ seen then some ⟨slot, by omega⟩ else none

/-- A fault entry: the axle is FAULTED, SENSOR_FAULT is raised, and the slide controller returns the axle to rest when it was
VALID (R40, R109). -/
def State.faultEntry (i : AxleSlot) (s : State) : State :=
  let s1 := s.onAxleSpeed i AxleSpeed.fault
  State.raise (.sensorFault i) (if s.speed.axles[i].validity = .valid then s1.restAxle i else s1)

/-- An entry is judged and taken (R39 to R44). -/
def takeEntry (first last : AxleSlot) (stamp : Count) (seen : List Nat) (e : RawEntry) (s : State) : State × Outcome5 :=
  match entrySlot first last seen e.slot with
  | none => (s.countSampleRefused, .refused)
  | some i =>
    let a := s.speed.axles[i]
    if entryPasses a e stamp then
      if e.status = 1 then (s.faultEntry i, .fault)
      else
        let new := axleSpeedOf a.pulse e.pulses e.interval
        (s.onAxleSpeed i (AxleSpeed.good s.tables.speed s.now new stamp), .good (goodEntry s.tables.speed i new stamp a))
    else (s.countSampleRefused, .refused)

/-- Phase 1: the entries one by one in payload order (R38). -/
def takeEntries (first last : AxleSlot) (stamp : Count) : List Nat → List RawEntry → State → State × List Outcome5
  | _, [], s => (s, [])
  | seen, e :: es, s =>
    let r := takeEntry first last stamp seen e s
    let rest := takeEntries first last stamp (e.slot :: seen) es r.1
    (rest.1, r.2 :: rest.2)

/-! ## The reference speed record (R46 to R50) -/

/-- The axle's validity is VALID. -/
def State.axleValid (s : State) (i : AxleSlot) : Bool := s.speed.axles[i].validity == .valid

/-- Some axle is VALID. -/
def State.anyValid (s : State) : Bool := axleSlots.any fun i => s.axleValid i

/-- The highest speed among the VALID axles (R47). -/
def State.candidate (s : State) : Nat :=
  axleSlots.foldl (fun m i => if s.axleValid i then max m s.speed.axles[i].speed else m) 0

/-- The readers of a reference update: the demand intake judges the latch and the condition monitor makes its pass (R46). -/
def State.referenceReaders (s : State) : State := s.withMonitor s.referenceUpdates State.judgeLatch

/-- A limit per second over a time in µs, rounded down (R48). -/
def allowance (limit : Nat) (us : Nat) : Nat := limit * us / 1000000

/-- The new reference value: the candidate within the allowances, floored at 0 and saturated at 20000 (R48). -/
def boundedValue (set : SpeedSet) (old candidate us : Nat) : Nat :=
  min (min (max candidate (old - allowance set.decelLimit us)) (old + allowance set.accelLimit us)) 20000

/-- The estimate after a bounded update; kept when the time is below 1000 µs (R49). -/
def nextEstimate (estimate : Int) (old new us : Nat) : Int :=
  if us < 1000 then estimate
  else
    let raw := (((old : Int) - new) * 1000000).tdiv us
    clampInt (-5000) 5000 (estimate + (raw - estimate).tdiv 8)

/-- The record after a frame update with a candidate (R47 from INVALID, R48 and R49 from VALID or HELD). -/
def RefRecord.update (set : SpeedSet) (candidate : Nat) (stamp : Count) (r : RefRecord) : RefRecord :=
  match r.state with
  | .invalid => { r with value := candidate, state := .valid, estimate := 0, lastUpdate := stamp }
  | .valid | .held =>
    let dt := elapsed r.lastUpdate stamp
    let new := boundedValue set r.value candidate dt.toNat
    { value := new, state := .valid, estimate := nextEstimate r.estimate r.value new dt.toNat
      lastUpdate := if dt < 0 then r.lastUpdate else stamp
      holdTimer := if r.state = .held then none else r.holdTimer }

/-- The record HELD, its hold timer started (R50). -/
def RefRecord.hold (now : Count) (holdTime : Nat) (r : RefRecord) : RefRecord :=
  { r with state := .held, holdTimer := startTimer now holdTime }

/-- The last VALID axle is lost (R50), before the update is handed to its readers. -/
def State.holdReference (s : State) : State :=
  if s.speed.ref.state = .valid then
    (s.setRef (s.speed.ref.hold s.now s.tables.speed.holdTime)).raise .refHeld
  else s

/-- The loss of the last VALID axle outside a frame update, handed to the readers (R46, R50). -/
def State.loseLastValid (s : State) : State := s.holdReference.referenceReaders

/-- The record after the hold timer's expiry (R50). -/
def RefRecord.expire (r : RefRecord) : RefRecord := { r with value := 0, state := .invalid, estimate := 0, holdTimer := none }

/-- The expiry of the hold timer (R50). -/
def State.expireReference (s : State) : State :=
  ((s.setRef s.speed.ref.expire).raise .refInvalid).referenceReaders

/-- Phase 2: the frame update of the reference (R47, R48, R50), handed to its readers (R46). -/
def State.frameUpdate (stamp : Count) (s : State) : State :=
  State.referenceReaders
    (if s.anyValid then s.setRef (s.speed.ref.update s.tables.speed s.candidate stamp) else s.holdReference)

/-! ## Sample frames (R38) -/

/-- Phase 3: each good entry is handed on, in payload order (R45). -/
def handOnAll : List Outcome5 → State → State
  | [], s => s
  | .good g :: os, s => handOnAll os (s.handOn g)
  | .refused :: os, s => handOnAll os s
  | .fault :: os, s => handOnAll os s

/-- A payload length that an accepted sample frame may have (R38). -/
def sampleLengthOk (n : Nat) : Bool := n == 5 || n == 10 || n == 15

/-- An accepted entry list is taken in its three phases (R38). -/
def takeList (first last : AxleSlot) (stamp : Count) (payload : List Byte) (s : State) : State × List Outcome5 :=
  let r := takeEntries first last stamp [] (rawEntries payload) s
  (handOnAll r.2 (r.1.frameUpdate stamp), r.2)

/-- A sample frame handed to the speed unit (R38). -/
def takeSample (first last : AxleSlot) (stamp : Count) (f : Frame) (s : State) : State :=
  if sampleLengthOk (framePayload f).length then (takeList first last stamp (framePayload f) s).1
  else s.countSampleRefused

/-! ## Age expiry and AXLE writes (R37, R44) -/

/-- An axle whose age timer has expired (R44). -/
def AxleSpeed.age (a : AxleSpeed) : AxleSpeed := { a with validity := .stale, ageTimer := none }

/-- An axle's validity leaves VALID outside a sample frame: the slide controller returns it to rest (R109), and the reference
loses its last VALID axle when no other is VALID (R50). `was` says that the axle was VALID. -/
def State.axleLost (was : Bool) (i : AxleSlot) (s : State) : State :=
  if was then (if (s.restAxle i).anyValid then s.restAxle i else (s.restAxle i).loseLastValid) else s

/-- The expiry of an axle's age timer (R44). -/
def State.ageAxle (i : AxleSlot) (s : State) : State := (s.onAxleSpeed i AxleSpeed.age).axleLost (s.axleValid i) i

/-- The effect of an accepted AXLE write on the axle's record, the table already written (R37). -/
def State.resetAxle (i : AxleSlot) (s : State) : State :=
  (s.onAxleSpeed i fun _ => AxleSpeed.rest s.tables.axle[i]).axleLost (s.axleValid i) i

end Sys2Proof.Machine
end

