-- ==== Sys2Proof/Machine/Requests.lean ====
section
/-! DEFINITION. The management agent's request queue: arrival, BUSY, service of the request at the head, responses
(R12, R166, R167). -/

namespace Sys2Proof.Machine

/-- Response statuses (Table 1-13). -/
inductive Status where
  | ok | busy | badRequest | badIndex | badValue | locked | badConfig | notClosed
  deriving DecidableEq, Repr

/-- Status codes (Table 1-13). -/
def Status.code : Status → Byte
  | .ok => 0 | .busy => 1 | .badRequest => 2 | .badIndex => 3 | .badValue => 4 | .locked => 5 | .badConfig => 6 | .notClosed => 7

/-- The payload of a response (Table 1-10): kind and id copied from the request. -/
def responsePayload (r : Request) (st : Status) (data : List Byte) : List Byte := r.kind :: r.id :: st.code :: data

/-- A response is offered to the originated queue of the request's port, for the request's source (R7, R166); a refused one is
dropped and counted (R18). -/
def State.respond (s : State) (r : Request) (st : Status) (data : List Byte) : State :=
  if s.hasRoom r.port then s.accept r.port .response r.source kindResponse (responsePayload r st data)
  else s.countResponseDropped

/-- A request from its frame (R166). -/
def requestOf (p : Port) (stamp : Count) (f : Frame) : Request :=
  { port := p, stamp := stamp, source := frameSource f, kind := byteAt (framePayload f) 0, id := byteAt (framePayload f) 1
    args := (framePayload f).drop 2 }

/-- A request handed to the agent: it joins the queue while that holds fewer than 4, and is answered BUSY otherwise (R166). -/
def State.takeRequest (r : Request) (s : State) : State :=
  if s.agent.queue.length < 4 then { s with agent := { s.agent with queue := s.agent.queue ++ [r] } }
  else s.respond r .busy []

/-- What the service of a request brings about: the state with its effects, the status, the data, and the number of the
incident that becomes CLOSED_READ once the response has been accepted (R161, R162). -/
structure Answer where
  state : State
  status : Status
  data : List Byte
  reads : Option Nat

/-- A refused request has no effect and carries no data (R167). -/
def refuse (s : State) (st : Status) : Answer := ⟨s, st, [], none⟩

/-- A request served with its effects and its data. -/
def answer (s : State) (data : List Byte) : Answer := ⟨s, .ok, data, none⟩

/-- The served request leaves the queue. -/
def State.popRequest (s : State) : State := { s with agent := { s.agent with queue := s.agent.queue.drop 1 } }

/-- A CLOSED_UNREAD incident becomes CLOSED_READ (R161, R162). -/
def Incident.read (x : Incident) : Incident := if x.state = .closedUnread then { x with state := .closedRead } else x

/-- The incident whose readout is complete is CLOSED_READ, once its response has been accepted (R161, R162). -/
def State.markRead (n : Option Nat) (s : State) : State :=
  match n with
  | none => s
  | some n =>
    s.setRecorder { s.recorder with
      incidents := s.recorder.incidents.map fun x => if x.number = n then x.read else x }

/-- A response is offered, and what waits for its acceptance takes place when it is accepted. -/
def Answer.send (a : Answer) (r : Request) : State :=
  if a.state.hasRoom r.port then (a.state.respond r a.status a.data).markRead a.reads
  else a.state.respond r a.status a.data

/-- The service of the request at the head, as one event (R166): it is judged and its effects take place, its response is
offered, and the request leaves the queue. With an empty queue, or a head that `mine` does not know, there is nothing of this
kind to serve and nothing happens (note 2). -/
def serve (mine : Request → Bool) (act : Request → State → Answer) (s : State) : State :=
  match s.agent.queue with
  | [] => s
  | r :: _ => if mine r then ((act r s).send r).popRequest else s

/-- The request has a kind code. -/
def ofKind (k : Byte) (r : Request) : Bool := r.kind == k

/-- The argument byte at a place, as a number. -/
def Request.arg (r : Request) (n : Nat) : Nat := (byteAt r.args n).toNat

/-- The argument bytes at a place, as one number. -/
def Request.number (r : Request) (at_ n : Nat) : Nat := ofBytes ((r.args.drop at_).take n)

/-! ## Request kind codes (Table 1-12) -/

def reqGetState : Byte := 0x01
def reqSetState : Byte := 0x02
def reqReadEntry : Byte := 0x03
def reqWriteEntry : Byte := 0x04
def reqReadStatus : Byte := 0x05
def reqReadEvents : Byte := 0x06
def reqNodeCut : Byte := 0x07
def reqNodeRestore : Byte := 0x08
def reqClearFallback : Byte := 0x09
def reqTrigger : Byte := 0x0A
def reqRecordList : Byte := 0x10
def reqRecordHeader : Byte := 0x11
def reqRecordRead : Byte := 0x12
def reqRecordRelease : Byte := 0x13
def reqTimeRead : Byte := 0x20
def reqTimeSet : Byte := 0x21
def reqTimeCorrect : Byte := 0x22
def reqReadTimemark : Byte := 0x23
def reqInjectSample : Byte := 0x30
def reqReset : Byte := 0x3F

/-- The request kinds of Table 1-12. -/
def knownKinds : List Byte :=
  [reqGetState, reqSetState, reqReadEntry, reqWriteEntry, reqReadStatus, reqReadEvents, reqNodeCut, reqNodeRestore,
   reqClearFallback, reqTrigger, reqRecordList, reqRecordHeader, reqRecordRead, reqRecordRelease, reqTimeRead, reqTimeSet,
   reqTimeCorrect, reqReadTimemark, reqInjectSample, reqReset]

end Sys2Proof.Machine
end

