-- ==== Sys2Proof/Machine/Codes.lean ====
section
/-! DEFINITION. The codes in which responses carry the values of records (R30, R34, R53, R134, R138, R148, R160 to R163, R168,
R170), and totals in two bytes. -/

namespace Sys2Proof.Machine

def PartState.code : PartState → Byte
  | .pass => 0 | .config => 1 | .run => 2 | .failsafe => 3

/-- The target state of SET_STATE; none above 3 (R172). -/
def partOfCode : Nat → Option PartState
  | 0 => some .pass
  | 1 => some .config
  | 2 => some .run
  | 3 => some .failsafe
  | _ => none

def FailsafeCause.code : FailsafeCause → Byte
  | .clear => 0 | .management => 1 | .monitor => 2 | .controlLost => 3

def SourceState.code : SourceState → Byte
  | .never => 0 | .current => 1 | .lost => 2

/-- Table 1-4. -/
def Mode.code : Mode → Byte
  | .release => 0 | .dynamicOnly => 1 | .blended => 2 | .airOnly => 3 | .emergency => 4

def DemandOrigin.code : DemandOrigin → Byte
  | .source0 => 0 | .source1 => 1 | .penalty => 2

def EpochKind.code : EpochKind → Byte
  | .regular => 0 | .extra => 1

def Relief.code : Relief → Byte
  | .calm => 0 | .hold => 1 | .vent => 2

def SlideState.code : SlideState → Byte
  | .normal => 0 | .relief => 1 | .hold => 2 | .reapply => 3

def Side.code : Side → Byte
  | .unknown => 0 | .low => 1 | .high => 2

def NodeState.code : NodeState → Byte
  | .absent => 0 | .joining => 1 | .active => 2 | .degraded => 3 | .lost => 4 | .cutOut => 5

/-- Table 1-6. -/
def Control.code : Control → Byte
  | .releaseControl => 0 | .holdControl => 1

def Validity.code : Validity → Byte
  | .unknown => 0 | .valid => 1 | .stale => 2 | .faulted => 3

def Trend.code : Trend → Byte
  | .flat => 0 | .decel => 1 | .accel => 2

def RefState.code : RefState → Byte
  | .invalid => 0 | .valid => 1 | .held => 2

def Notice.code : Notice → Byte
  | .unsent => 0 | .queued => 1 | .refused => 2

def Sense.code : Sense → Byte
  | .advance => 0 | .retard => 1

def MarkState.code : MarkState → Byte
  | .empty => 0 | .fresh => 1 | .read => 2

def IncidentState.code : IncidentState → Byte
  | .opened => 0 | .closedUnread => 1 | .closedRead => 2

/-- Table 10-2. -/
def Cause.code : Cause → Byte
  | .monitor _ => 1 | .emergencyEntry => 2 | .demandLost _ => 3 | .nodeLost _ => 4 | .slidePersistent _ => 5
  | .incidentLine => 6 | .management => 7 | .failsafeEntry => 8

/-- Table 10-2. -/
def Cause.index : Cause → Byte
  | .monitor m => Machine.code m.val
  | .demandLost d => Machine.code d.val
  | .nodeLost n => Machine.code n.val
  | .slidePersistent i => Machine.code i.val
  | .emergencyEntry | .incidentLine | .management | .failsafeEntry => 0

def Outcome5.code : Outcome5 → Byte
  | .refused => 0 | .fault => 1 | .good _ => 2

/-- A counter of four bytes (R138, R170). -/
def counterBytes (c : Counter) : List Byte := toBytes 4 c.toNat

/-- A total in two bytes. What a total above 65535 is sent as is not stated (free value, note 15). -/
def total2 (draw v : Nat) : List Byte := toBytes 2 (if v ≤ 65535 then v else (Config.wideTotal draw v).toNat)

/-- An optional value as presence and value, 0 when absent (R138). -/
def presence2 (v : Option Nat) : List Byte := flag v.isSome :: toBytes 2 (v.getD 0)

/-- A value for every axle, in slot order. -/
def perAxle (f : AxleSlot → List Byte) : List Byte := f 0 ++ f 1 ++ f 2 ++ f 3 ++ f 4 ++ f 5

/-- A value for truck 1 and then truck 2. -/
def perTruck (f : TruckSlot → List Byte) : List Byte := f 0 ++ f 1

/-- The reference value, state and estimate (R52, R53). -/
def RefRecord.bytes (r : RefRecord) : List Byte := toBytes 2 r.value ++ (r.state.code :: toSigned2 r.estimate)

end Sys2Proof.Machine
end

