-- ==== Sys2Proof/Machine/Resets.lean ====
section
/-! DEFINITION. Power-on reset and soft reset (R22, R175, R176), and the re-basing of stamps and timers at a TIME_SET (R29). -/

namespace Sys2Proof.Machine

/-! ## Power-on reset (R175) -/

/-- POWER_ON_RESET: every block takes its power-on values; the own address is read from the straps and the line's level is taken
(R1, R164). The commands waiting and the number of free values taken are the model's and stay. -/
def execPowerOnReset (straps : BitVec 4) (lineActive : Bool) (s : State) : Host.Outcome State Fault Refusal :=
  .next { State.powerOn straps lineActive with pending := s.pending, draws := s.draws }

/-! ## Soft reset (R176) -/

/-- A port at soft reset (R22): queues emptied except for the response to the RESET, run count 0, counters 0. A transmission in
progress and a reception under way go on. -/
def PortState.softReset (keep : List OrigFrame) (p : PortState) : PortState :=
  { p.clearCounters with forward := [], originated := keep, run := 0 }

/-- The response to a RESET, when it still waits in its originated queue: the newest frame of that queue, and only when the
queue accepted it. -/
def keptResponse (accepted : Bool) (p : PortState) : List OrigFrame :=
  if accepted then p.originated.drop (p.originated.length - 1) else []

/-- Every block's soft-reset values (R22, R35, R36, R46, R54, R90, R103, R105, R123, R145, R146, R158, R164, R176), with the
originated frames that stay. -/
def State.softReset (keepA keepB : List OrigFrame) (s : State) : State :=
  { s with
    link := { s.link.clearCounters with
      portA := s.link.portA.softReset keepA, portB := s.link.portB.softReset keepB, txSeq := 0 }
    time := { s.time with mark := MarkCapture.powerOn }
    speed := SpeedBlock.start s.tables
    demand := DemandBlock.powerOn
    blend := { BlendBlock.start s.tables with runEntry := s.blend.runEntry }
    slide := SlideBlock.powerOn
    order := { nodes := vec8 fun n => (s.node n).restart, controlLoss := none }
    monitor := MonitorBlock.powerOn
    recorder := { s.recorder with ring := [], debounce := none }
    agent := AgentBlock.powerOn }

/-- RESET (R176): in RUN it is refused; otherwise its response is offered first and the soft reset then takes place. -/
def execReset (s : State) : Host.Outcome State Fault Refusal :=
  .next <|
    match s.agent.queue with
    | [] => s
    | r :: _ =>
      if ofKind reqReset r then
        if r.args.length ≠ 0 then (s.respond r .badRequest []).popRequest
        else if s.running then (s.respond r .locked []).popRequest
        else
          let s1 := s.respond r .ok []
          let kept := keptResponse (s.hasRoom r.port) (s1.port r.port)
          match r.port with
          | .a => s1.softReset kept []
          | .b => s1.softReset [] kept
      else s

/-! ## Re-basing at a TIME_SET (R29) -/

/-- A timer's expiry moved. -/
def shiftTimer (d : Count) (t : Timer) : Timer := t.map (· + d)

/-- A stamp moved. -/
def shiftStamp (d : Count) (c : Count) : Count := c + d

/-- The stamp of a reception under way, moved. -/
def PortState.shift (d : Count) (p : PortState) : PortState := { p with rx := p.rx.map (shiftStamp d) }

/-- The mark capture's arrival stamp, moved; in EMPTY there is none and the field stays 0 (note 17). -/
def MarkCapture.shift (d : Count) (m : MarkCapture) : MarkCapture :=
  if m.state = .empty then m else { m with stamp := shiftStamp d m.stamp }

def AxleSpeed.shift (d : Count) (a : AxleSpeed) : AxleSpeed :=
  { a with stamp := shiftStamp d a.stamp, prevStamp := shiftStamp d a.prevStamp, ageTimer := shiftTimer d a.ageTimer }

def RefRecord.shift (d : Count) (r : RefRecord) : RefRecord :=
  { r with lastUpdate := shiftStamp d r.lastUpdate, holdTimer := shiftTimer d r.holdTimer }

/-- A source's arrival stamp and loss timer, moved; with no accepted frame there is no stamp and the field stays 0 (Table 4-1,
note 17). -/
def SourceRec.shift (d : Count) (r : SourceRec) : SourceRec :=
  { r with stamp := if r.payload.isSome then shiftStamp d r.stamp else r.stamp, timer := shiftTimer d r.timer }

def BlendBlock.shift (d : Count) (b : BlendBlock) : BlendBlock :=
  { b with runEntry := shiftStamp d b.runEntry, timer := shiftTimer d b.timer
           pub := { b.pub with time := shiftStamp d b.pub.time } }

def AxleSlide.shift (d : Count) (a : AxleSlide) : AxleSlide := { a with holdTimer := shiftTimer d a.holdTimer }

def TruckSlide.shift (d : Count) (t : TruckSlide) : TruckSlide := { t with timer := shiftTimer d t.timer }

def NodeRec.shift (d : Count) (r : NodeRec) : NodeRec :=
  { r with exch := { r.exch with issued := shiftStamp d r.exch.issued, deadline := shiftTimer d r.exch.deadline } }

def PendingEvent.shift (d : Count) (e : PendingEvent) : PendingEvent := { e with stamp := shiftStamp d e.stamp }

def Snapshot.shift (d : Count) (x : Snapshot) : Snapshot := { x with time := shiftStamp d x.time }

/-- Every stamp an incident holds, moved; the copied mark's number and master time are not stamps of the count. -/
def Incident.shift (d : Count) (x : Incident) : Incident :=
  { x with
    openStamp := shiftStamp d x.openStamp, closeStamp := x.closeStamp.map (shiftStamp d)
    causes := x.causes.map fun c => { c with stamp := shiftStamp d c.stamp }
    mark := x.mark.map fun m => { m with stamp := shiftStamp d m.stamp }
    lineStamp := x.lineStamp.map (shiftStamp d)
    snaps := x.snaps.map (Snapshot.shift d) }

def RecorderBlock.shift (d : Count) (r : RecorderBlock) : RecorderBlock :=
  { r with ring := r.ring.map (Snapshot.shift d), incidents := r.incidents.map (Incident.shift d)
           edge := r.edge.map (shiftStamp d), debounce := shiftTimer d r.debounce }

def Request.shift (d : Count) (r : Request) : Request := { r with stamp := shiftStamp d r.stamp }

/-- Every running timer's expiry and every held stamp moved by the step of the load (R29). -/
def State.rebase (d : Count) (s : State) : State :=
  { s with
    link := { s.link with portA := s.link.portA.shift d, portB := s.link.portB.shift d }
    time := { s.time with mark := s.time.mark.shift d }
    speed := { axles := vec6 fun i => (s.speed.axles[i]).shift d, ref := s.speed.ref.shift d }
    demand := { s.demand with sources := vec2 fun i => (s.demand.sources[i]).shift d }
    blend := s.blend.shift d
    slide := { axles := vec6 fun i => (s.slide.axles[i]).shift d, trucks := vec2 fun t => (s.slide.trucks[t]).shift d }
    order := { nodes := vec8 fun n => (s.node n).shift d, controlLoss := shiftTimer d s.order.controlLoss }
    monitor := { s.monitor with events := s.monitor.events.map (PendingEvent.shift d) }
    recorder := s.recorder.shift d
    agent := { s.agent with queue := s.agent.queue.map (Request.shift d) } }

end Sys2Proof.Machine
end

