-- ==== Sys2Proof/Machine/Validation.lean ====
section
/-! DEFINITION. Validation of the tables before entry into RUN: the checks C1 to C10 (R171). Each `failsC` says when its check
fails. -/

namespace Sys2Proof.Machine

/-- The valid classification entries. -/
def Tables.validEntries (t : Tables) : List ClassEntry := t.classify.toList.filter fun e => e.valid

/-- C1: no valid CLASSIFY entry has role DEMAND_0. -/
def Tables.failsC1 (t : Tables) : Bool := !(t.validEntries.any fun e => e.role = .demand 0)

/-- Port sets overlap: EITHER overlaps every one, A and B do not overlap (R171, C2). -/
def portsOverlap (x y : PortSel) : Bool := x == .either || y == .either || x == y

/-- Two entries hold the same source and kind, and their ports overlap. -/
def entriesClash (x y : ClassEntry) : Bool := x.source == y.source && x.kind == y.kind && portsOverlap x.port y.port

/-- Some two entries of a list clash. -/
def someClash : List ClassEntry → Bool
  | [] => false
  | e :: es => (es.any fun x => entriesClash e x) || someClash es

/-- C2: two valid CLASSIFY entries clash. -/
def Tables.failsC2 (t : Tables) : Bool := someClash t.validEntries

/-- The speeds of a curve are strictly increasing. -/
def risingSpeeds : List CurvePoint → Bool
  | p :: q :: rest => decide (p.speed < q.speed) && risingSpeeds (q :: rest)
  | _ => true

/-- C3: point 0's speed is not 0, or the speeds are not strictly increasing (R67). -/
def Tables.failsC3 (t : Tables) : Bool := decide (t.curve.points[0].speed ≠ 0) || !risingSpeeds t.curve.curve

/-- C4: a present node's response time is not below the epoch period. -/
def Tables.failsC4 (t : Tables) : Bool :=
  nodeSlots.any fun n => t.node[n].present && decide (t.blend.period ≤ t.node[n].response)

/-- The step of a rate at the epoch period is below 1 (R94). -/
def stepBelowOne (rate period : Nat) : Bool := decide (rate * period < 1000)

/-- C5: a ramp step is below 1; a jerk of 0 passes (R94). -/
def Tables.failsC5 (t : Tables) : Bool :=
  stepBelowOne t.ramp.application t.blend.period || stepBelowOne t.ramp.release t.blend.period
    || stepBelowOne t.ramp.airApplication t.blend.period || stepBelowOne t.ramp.airRelease t.blend.period
    || (decide (t.ramp.jerk ≠ 0) && stepBelowOne t.ramp.jerk t.blend.period)

/-- C6 for one truck. -/
def TruckEntry.inconsistent (k : TruckEntry) : Bool := decide (k.maximum ≤ k.dead) || decide (k.maximum < k.emergency)

/-- C6: a TRUCK entry's dead pressure is not below its maximum pressure, or its emergency pressure is above it. -/
def Tables.failsC6 (t : Tables) : Bool := t.truck[0].inconsistent || t.truck[1].inconsistent

/-- Two present nodes hold the same address. -/
def Tables.sharedAddress (t : Tables) : Bool :=
  nodeSlots.any fun n => nodeSlots.any fun m =>
    decide (n ≠ m) && t.node[n].present && t.node[m].present && t.node[n].address == t.node[m].address

/-- An entry brings the reports of a node to the order unit (R122). -/
def ClassEntry.reportsNode (e : ClassEntry) (n : NodeSlot) (address : Byte) : Bool :=
  decide (e.role = .report n) && e.source == address && (e.action == .observe || e.action == .consume)
    && (e.port == .b || e.port == .either)

/-- C7: two present nodes share an address, or a present node has no matching REPORT entry (R122). -/
def Tables.failsC7 (t : Tables) : Bool :=
  t.sharedAddress
    || nodeSlots.any fun n => t.node[n].present && !(t.validEntries.any fun e => e.reportsNode n t.node[n].address)

/-- An entry's sample range covers an axle. -/
def ClassEntry.samplesAxle (e : ClassEntry) (i : AxleSlot) : Bool :=
  match e.role with
  | .axleSample first last => decide (first ≤ i) && decide (i ≤ last)
  | _ => false

/-- C8: an enabled axle lies in the range of no valid AXLE_SAMPLE entry. -/
def Tables.failsC8 (t : Tables) : Bool :=
  axleSlots.any fun i => t.axle[i].enabled && !(t.validEntries.any fun e => e.samplesAxle i)

/-- C9: the slip release is not below the slip onset, or a present node's lost count is not above its degrade count. -/
def Tables.failsC9 (t : Tables) : Bool :=
  decide (t.slide.slipOnset ≤ t.slide.slipRelease)
    || nodeSlots.any fun n => t.node[n].present && decide (t.node[n].lost ≤ t.node[n].degrade)

/-- C10: the pre-trigger depth plus the post-trigger count is above the incident maximum. -/
def Tables.failsC10 (t : Tables) : Bool := decide (t.recorder.maximum < t.recorder.depth + t.recorder.post)

/-- The number of the first true value of a list, counted from `n`; 0 when there is none. -/
def firstTrue : Nat → List Bool → Nat
  | _, [] => 0
  | n, b :: bs => if b then n else firstTrue (n + 1) bs

/-- The number of the first check that fails, in order from C1 to C10; 0 when all pass (R171). -/
def Tables.validate (t : Tables) : Nat :=
  firstTrue 1
    [t.failsC1, t.failsC2, t.failsC3, t.failsC4, t.failsC5, t.failsC6, t.failsC7, t.failsC8, t.failsC9, t.failsC10]

end Sys2Proof.Machine
end

