-- ==== Sys2Proof/Machine/AgentRequests.lean ====
section
/-! DEFINITION. Services of the agent's own requests: GET_STATE, SET_STATE, READ_ENTRY, WRITE_ENTRY, and the answer to an unknown
request kind (R167 to R169, R171, R172). RESET stands in Machine/Resets.lean. -/

namespace Sys2Proof.Machine

/-! ## GET_STATE (R168) -/

/-- The data of GET_STATE. -/
def State.stateData (s : State) : List Byte :=
  [s.agent.part.code, s.agent.cause.code, code s.agent.causeEntry, code s.agent.lastValidation, s.link.own]
    ++ toBytes 4 s.blend.epoch.toNat ++ [code (s.agent.queue.length - 1)]

def answerGetState (r : Request) (s : State) : Answer :=
  if r.args.length ≠ 0 then refuse s .badRequest else answer s s.stateData

/-- GET_STATE (R168). -/
def execGetState (s : State) : Host.Outcome State Fault Refusal := .next (serve (ofKind reqGetState) answerGetState s)

/-! ## SET_STATE (R171, R172) -/

/-- The part state alone changes (R172: transitions among PASS, CONFIG and FAILSAFE). -/
def State.withPart (p : PartState) (s : State) : State := { s with agent := { s.agent with part := p } }

/-- The last validation result. -/
def State.withValidation (n : Nat) (s : State) : State := { s with agent := { s.agent with lastValidation := n } }

/-- An accepted SET_STATE: OK, with the part state after the service (R172). -/
def accepted (s : State) : Answer := answer s [s.agent.part.code]

/-- A request for RUN in CONFIG: validation, and entry into RUN when all ten checks pass (R171). -/
def State.requestRun (s : State) : Answer :=
  if s.tables.validate = 0 then accepted (s.withValidation 0).enterRun
  else ⟨s.withValidation s.tables.validate, .badConfig, [code s.tables.validate], none⟩

/-- A departure from RUN at standstill (Table 11-4). -/
def State.requestLeave (target : PartState) (s : State) : Answer :=
  if s.standstill then accepted (s.leaveRun target) else refuse s .locked

/-- SET_STATE by present state and target (Table 11-4). -/
def State.changeState (s : State) (target : PartState) : Answer :=
  match s.agent.part, target with
  | .pass, .pass => accepted s
  | .pass, .config => accepted (s.withPart .config)
  | .pass, .run => refuse s .locked
  | .pass, .failsafe => refuse s .locked
  | .config, .pass => accepted (s.withPart .pass)
  | .config, .config => accepted s
  | .config, .run => s.requestRun
  | .config, .failsafe => refuse s .locked
  | .run, .pass => s.requestLeave .pass
  | .run, .config => s.requestLeave .config
  | .run, .run => accepted s
  | .run, .failsafe => accepted (s.enterFailsafe .management 0)
  | .failsafe, .pass => accepted (s.withPart .pass)
  | .failsafe, .config => accepted (s.withPart .config)
  | .failsafe, .run => refuse s .locked
  | .failsafe, .failsafe => accepted s

def answerSetState (r : Request) (s : State) : Answer :=
  if r.args.length ≠ 1 then refuse s .badRequest
  else
    match partOfCode (r.arg 0) with
    | none => refuse s .badValue
    | some target => s.changeState target

/-- SET_STATE (R172). -/
def execSetState (s : State) : Host.Outcome State Fault Refusal := .next (serve (ofKind reqSetState) answerSetState s)

/-! ## READ_ENTRY and WRITE_ENTRY (R169) -/

def answerReadEntry (r : Request) (s : State) : Answer :=
  if r.args.length ≠ 2 then refuse s .badRequest
  else
    match tableRef (r.arg 0) (r.arg 1) with
    | none => refuse s .badIndex
    | some e => answer s (s.tables.entryBytes e)

/-- READ_ENTRY (R169). -/
def execReadEntry (s : State) : Host.Outcome State Fault Refusal := .next (serve (ofKind reqReadEntry) answerReadEntry s)

/-- The side effects of an accepted write, the table already written: an AXLE write resets the axle's speed part (R37), a MONITOR
write the entry's run state (R140). -/
def State.afterWrite (e : TableRef) (s : State) : State :=
  match e with
  | .axle i => s.resetAxle i
  | .monitor m => s.setRun m RunState.powerOn
  | .classify _ | .node _ | .curvePoint _ | .curveCount | .blend | .truck _ | .ramp | .speed | .slide | .recorder | .time
  | .link => s

/-- An entry takes its written values, unless its data does not suit it (checks 4 and 5). -/
def State.writeEntry (s : State) (e : TableRef) (data : List Byte) : Answer :=
  if data.length ≠ entryLength e then refuse s .badRequest
  else
    match s.tables.written s.link.own e data with
    | none => refuse s .badValue
    | some t => answer (State.afterWrite e { s with tables := t }) []

def answerWriteEntry (r : Request) (s : State) : Answer :=
  if r.args.length < 2 then refuse s .badRequest
  else
    match tableRef (r.arg 0) (r.arg 1) with
    | none => refuse s .badIndex
    | some e => if s.running then refuse s .locked else s.writeEntry e (r.args.drop 2)

/-- WRITE_ENTRY (R169). -/
def execWriteEntry (s : State) : Host.Outcome State Fault Refusal := .next (serve (ofKind reqWriteEntry) answerWriteEntry s)

/-! ## An unknown request kind (R167) -/

/-- The request's kind is not in Table 1-12. -/
def unknownKind (r : Request) : Bool := !(knownKinds.contains r.kind)

/-- MGMT_UNKNOWN_KIND (R167): the request is answered BAD_REQUEST. -/
def execMgmtUnknownKind (s : State) : Host.Outcome State Fault Refusal :=
  .next (serve unknownKind (fun _ s => refuse s .badRequest) s)

end Sys2Proof.Machine
end

