-- ==== Sys2Proof/Machine/Expiries.lean ====
section
/-! DEFINITION. The expiries of the part's timers and the edges of the incident line. A timer that is stopped, or whose expiry
the count has not reached, has no expiry event (R25): the command then leaves the state as it is (note 2). -/

namespace Sys2Proof.Machine

/-- An expiry acts when its timer is running and due (R25). -/
def onExpiry (t : Timer) (s : State) (effect : State → State) : Host.Outcome State Fault Refusal :=
  .next (if t.due s.now then effect s else s)

/-- AXLE_AGE_EXPIRY (R44, R50, R109). -/
def execAxleAgeExpiry (i : AxleSlot) (s : State) : Host.Outcome State Fault Refusal :=
  onExpiry s.speed.axles[i].ageTimer s (State.ageAxle i)

/-- REFERENCE_HOLD_EXPIRY (R50). -/
def execReferenceHoldExpiry (s : State) : Host.Outcome State Fault Refusal :=
  onExpiry s.speed.ref.holdTimer s State.expireReference

/-- DEMAND_LOSS_EXPIRY (R58). -/
def execDemandLossExpiry (d : SourceSlot) (s : State) : Host.Outcome State Fault Refusal :=
  onExpiry s.demand.sources[d].timer s (State.loseSource d)

/-- The epoch timer's next expiry counts from the one just reached (R68). -/
def restartedEpoch (t : Timer) (period : Nat) : Timer := t.map fun e => Count.plus e (period * 1000)

/-- The epoch timer is restarted on its schedule and a regular epoch is taken (R68, R71). The restart comes first, so that a
departure from RUN within the epoch finds the timer running and stops it. -/
def State.regularEpoch (s : State) : State :=
  State.takeEpoch .regular
    { s with blend := { s.blend with timer := restartedEpoch s.blend.timer s.tables.blend.period } }

/-- EPOCH_TIMER_EXPIRY (R68, R71). -/
def execEpochTimerExpiry (s : State) : Host.Outcome State Fault Refusal := onExpiry s.blend.timer s State.regularEpoch

/-- SLIDE_HOLD_EXPIRY (R114). -/
def execSlideHoldExpiry (i : AxleSlot) (s : State) : Host.Outcome State Fault Refusal :=
  onExpiry s.slide.axles[i].holdTimer s fun s => s.onAxleSlide i (holdExpired s.tables.slide s.now)

/-- RELIEF_LOCKOUT_EXPIRY (R120). -/
def execReliefLockoutExpiry (t : TruckSlot) (s : State) : Host.Outcome State Fault Refusal :=
  onExpiry s.slide.trucks[t].timer s fun s => (s.onTruckSlide t TruckSlide.lockOut).raise (.reliefLockout t)

/-- A node's deadline expires with its exchange AWAITING: the exchange ends missed (R129). An IDLE exchange has its deadline
timer stopped. -/
def State.missDeadline (n : NodeSlot) (s : State) : State :=
  if (s.node n).exch.awaiting then (s.onNode n (NodeRec.miss true)).takeOutcome n false else s

/-- EXCHANGE_DEADLINE_EXPIRY (R129). -/
def execExchangeDeadlineExpiry (n : NodeSlot) (s : State) : Host.Outcome State Fault Refusal :=
  onExpiry (s.node n).exch.deadline s (State.missDeadline n)

/-- CONTROL_LOSS_EXPIRY (R136): entry into FAILSAFE with cause CONTROL_LOST. The timer stops at its expiry. -/
def execControlLossExpiry (s : State) : Host.Outcome State Fault Refusal :=
  onExpiry s.order.controlLoss s fun s =>
    State.enterFailsafe .controlLost 0 { s with order := { s.order with controlLoss := none } }

/-- LINE_ACTIVE_EDGE (R164): a change of the kept level from INACTIVE to ACTIVE. A line kept ACTIVE gives no active edge. -/
def execLineActiveEdge (s : State) : Host.Outcome State Fault Refusal :=
  .next (if s.recorder.lineActive then s
    else s.setRecorder { s.recorder with
      lineActive := true, edge := some s.now, debounce := startTimer s.now s.tables.recorder.debounce })

/-- LINE_INACTIVE_EDGE (R164): a change of the kept level from ACTIVE to INACTIVE, which stops a running debounce timer. -/
def execLineInactiveEdge (s : State) : Host.Outcome State Fault Refusal :=
  .next (if s.recorder.lineActive then s.setRecorder { s.recorder with lineActive := false, debounce := none } else s)

/-- LINE_DEBOUNCE_EXPIRY (R164): the trigger INCIDENT_LINE, which the recorder takes in RUN as its cause mask states. -/
def execLineDebounceExpiry (s : State) : Host.Outcome State Fault Refusal :=
  onExpiry s.recorder.debounce s fun s => (s.setRecorder { s.recorder with debounce := none }).trigger .incidentLine

end Sys2Proof.Machine
end

