-- ==== Sys2Proof/Machine/Forwarder.lean ====
section
/-! DEFINITION. The forwarder: reception, classification, forwarding and handing to blocks (R8 to R20), and the meanings of
RECEPTION_START, FRAME_ARRIVAL, TRANSMISSION_COMPLETE and COUNT_STEP. -/

namespace Sys2Proof.Machine

/-! ## Classification (R10 to R16) -/

/-- An entry's port is the receiving port or EITHER. -/
def PortSel.covers (sel : PortSel) (p : Port) : Bool :=
  match sel, p with
  | .either, _ => true
  | .a, .a => true
  | .b, .b => true
  | _, _ => false

/-- A valid entry matches a frame received at a port (R11). -/
def ClassEntry.matchesFrame (e : ClassEntry) (p : Port) (f : Frame) : Bool :=
  e.valid && e.source == frameSource f && e.kind == frameKind f && e.port.covers p

/-- The matching entry: the lowest-numbered one that matches (R11). In PASS the table is not applied (R15). -/
def State.matchingEntry (s : State) (p : Port) (f : Frame) : Option ClassEntry :=
  if s.agent.part = .pass then none else s.tables.classify.toList.find? fun e => e.matchesFrame p f

/-- The effective action and role of an entry in a part state (Table 1-18). -/
def ClassEntry.effective (e : ClassEntry) (st : PartState) : Action × Role :=
  match st, e.role with
  | .run, r => (e.action, r)
  | _, .demand _ => (.forward, .noRole)
  | _, .report _ => (.forward, .noRole)
  | _, r => (e.action, r)

/-- A report handed to the order unit (R126 to R128): refused for its form, or matched against its node's exchange; a pressure
it stores updates the monitor's TRUCK_PRESSURE source. -/
def takeReport (n : NodeSlot) (stamp : Count) (f : Frame) (s : State) : State :=
  let p := framePayload f
  if p.length ≠ 6 ∨ s.tables.node[n].present = false ∨ 3 < (byteAt p 1).toNat then s.countReportRefused
  else
    let achieved := ofBytes ((p.drop 2).take 2)
    let s1 := s.matchReport n stamp (byteAt p 0) (byteAt p 1).toNat achieved (ofBytes ((p.drop 4).take 2))
    if s.reportStores n (byteAt p 0) (byteAt p 1).toNat then
      s1.monitorPass [(.truckPressure (if n = 6 then 0 else 1), (achieved : Int))]
    else s1

/-- A frame is handed to the block of its effective role (R16). -/
def handToRole (r : Role) (stamp : Count) (f : Frame) (s : State) : State :=
  match r with
  | .noRole => s
  | .demand d => takeDemand d stamp f s
  | .axleSample first last => takeSample first last stamp f s
  | .report n => takeReport n stamp f s
  | .timeMark => takeTimeMark stamp f s

/-- A frame is forwarded to the other port: placed in its forward queue, or counted and raised as LINK_OVERFLOW when that is
full (R17). -/
def State.forwardFrom (p : Port) (f : Frame) (s : State) : State :=
  if s.forwardRoom (otherPort p) then s.placeForward (otherPort p) f
  else (s.countOverflow (otherPort p)).raise (.linkOverflow (otherPort p))

/-- A frame, other than a request, that is addressed to the own address (R13). -/
def State.takeOwn (p : Port) (stamp : Count) (f : Frame) (s : State) : State :=
  match s.matchingEntry p f with
  | none => s.countUnclaimed
  | some e =>
    match e.effective s.agent.part with
    | (.drop, _) => s
    | (_, .noRole) => s.countUnclaimed
    | (_, r) => handToRole r stamp f s

/-- A frame addressed to any other address (R14). A frame both forwarded and handed on is forwarded first (DEDUCED, note 10). -/
def State.takeOther (p : Port) (stamp : Count) (f : Frame) (s : State) : State :=
  match s.matchingEntry p f with
  | none => s.forwardFrom p f
  | some e =>
    match e.effective s.agent.part with
    | (.drop, _) => s
    | (.forward, _) => s.forwardFrom p f
    | (.observe, r) => handToRole r stamp f (s.forwardFrom p f)
    | (.consume, r) => handToRole r stamp f (if frameDest f = broadcast then s.forwardFrom p f else s)

/-- The frame is a management request addressed to the own address (R12). -/
def isOwnRequest (own : Byte) (f : Frame) : Bool := frameDest f == own && frameKind f == kindRequest

/-- A frame that has passed the reception checks (R9, R12 to R14). -/
def State.classify (p : Port) (stamp : Count) (f : Frame) (s : State) : State :=
  if isOwnRequest s.link.own f then
    if (framePayload f).length < 2 then s.countBadForm p else State.takeRequest (requestOf p stamp f) (s.countGood p)
  else if frameDest f = s.link.own then State.takeOwn p stamp f (s.countGood p)
  else State.takeOther p stamp f (s.countGood p)

/-- A frame at its arrival: refused and counted, or classified (R9). -/
def State.receive (p : Port) (stamp : Count) (f : Frame) (s : State) : State :=
  match receptionFault s.link.own f with
  | some .badForm => s.countBadForm p
  | some .badCheck => s.countBadCheck p
  | none => s.classify p stamp f

/-- The reception at a port is over. -/
def State.endReception (p : Port) (s : State) : State := s.onPort p fun x => { x with rx := none }

/-! ## Meanings -/

/-- RECEPTION_START (R8): the receiver takes the present count as the frame's arrival stamp. -/
def execReceptionStart (p : Port) (s : State) : Host.Outcome State Fault Refusal :=
  .next (s.onPort p fun x => { x with rx := some s.now })

/-- FRAME_ARRIVAL (R9). The frame whose reception is under way is taken whole, with its arrival stamp. Bytes that end no
reception are a frame lost at a power-on reset, counted nowhere (R175, note 19). -/
def execFrameArrival (p : Port) (bytes : Frame) (s : State) : Host.Outcome State Fault Refusal :=
  match (s.port p).rx with
  | none => .next s
  | some stamp => .next (State.receive p stamp bytes (s.endReception p))

/-- TRANSMISSION_COMPLETE (R20): the transmission is counted and the arbiter chooses again. On an IDLE line there is none to
complete (note 2). -/
def execTransmissionComplete (p : Port) (s : State) : Host.Outcome State Fault Refusal :=
  .next (if (s.port p).line = .idle then s else s.onPort p PortState.completed)

/-- COUNT_STEP (R23, R26). -/
def execCountStep (s : State) : Host.Outcome State Fault Refusal := .next { s with time := s.time.step }

end Sys2Proof.Machine
end

