-- ==== Sys2Proof/Machine/NodeRequests.lean ====
section
/-! DEFINITION. Services of NODE_CUT, NODE_RESTORE and CLEAR_FALLBACK (R89, R134, R135). -/

namespace Sys2Proof.Machine

/-- A request whose one argument is a node slot, answered with the supervision state before the service. -/
def answerNode (act : NodeSlot → State → State) (r : Request) (s : State) : Answer :=
  if r.args.length ≠ 1 then refuse s .badRequest
  else if h : r.arg 0 < 8 then answer (act ⟨r.arg 0, h⟩ s) [(s.node ⟨r.arg 0, h⟩).sup.state.code]
  else refuse s .badIndex

/-- NODE_CUT (R134). -/
def execNodeCut (s : State) : Host.Outcome State Fault Refusal :=
  .next (serve (ofKind reqNodeCut) (answerNode State.cutNode) s)

/-- NODE_RESTORE (R135). -/
def execNodeRestore (s : State) : Host.Outcome State Fault Refusal :=
  .next (serve (ofKind reqNodeRestore) (answerNode State.restoreNode) s)

/-- The air-fallback flag clear (R89). -/
def State.clearFallback (s : State) : State := { s with blend := { s.blend with fallback := false } }

def answerClearFallback (r : Request) (s : State) : Answer :=
  if r.args.length ≠ 0 then refuse s .badRequest else answer s.clearFallback [flag s.blend.fallback]

/-- CLEAR_FALLBACK (R89). -/
def execClearFallback (s : State) : Host.Outcome State Fault Refusal :=
  .next (serve (ofKind reqClearFallback) answerClearFallback s)

end Sys2Proof.Machine
end

