-- ==== Sys2Proof/Machine/RecordRequests.lean ====
section
/-! DEFINITION. Services of the incident recorder's requests: TRIGGER, RECORD_LIST, RECORD_HEADER, RECORD_READ and
RECORD_RELEASE (R159 to R163). -/

namespace Sys2Proof.Machine

/-! ## TRIGGER (R163) -/

/-- The result of a trigger: OPENED 0, ADDED 1, REFUSED 2, with the incident's number, 0 when refused. A MANAGEMENT trigger in
RUN is never ignored (R152). -/
def TriggerResult.bytes : TriggerResult → List Byte
  | .opened n => 0 :: toBytes 2 n
  | .added n => 1 :: toBytes 2 n
  | .refused | .ignored => 2 :: toBytes 2 0

def answerTrigger (r : Request) (s : State) : Answer :=
  if r.args.length ≠ 0 then refuse s .badRequest
  else if s.running then answer (s.trigger .management) (s.triggerResult .management).bytes
  else refuse s .locked

/-- TRIGGER (R163). -/
def execTrigger (s : State) : Host.Outcome State Fault Refusal := .next (serve (ofKind reqTrigger) answerTrigger s)

/-! ## RECORD_LIST (R160) -/

/-- The data of RECORD_LIST. -/
def RecorderBlock.listData (b : RecorderBlock) : List Byte :=
  toBytes 2 b.lost ++ toBytes 2 (freeSlots b.incidents) ++ toBytes 2 b.nextNumber ++ [code b.incidents.length]
    ++ b.incidents.flatMap fun x => toBytes 2 x.number ++ [x.state.code]

def answerRecordList (r : Request) (s : State) : Answer :=
  if r.args.length ≠ 0 then refuse s .badRequest else answer s s.recorder.listData

/-- RECORD_LIST (R160). -/
def execRecordList (s : State) : Host.Outcome State Fault Refusal := .next (serve (ofKind reqRecordList) answerRecordList s)

/-! ## Incidents by number -/

/-- The held incident with a number. -/
def RecorderBlock.incident (b : RecorderBlock) (n : Nat) : Option Incident := b.incidents.find? fun x => x.number = n

/-! ## RECORD_HEADER (R161) -/

/-- The time from a stamp to another, as the low `n` bytes of its two's complement (R161 says that the offsets fit, note 26). -/
def offsetBytes (n : Nat) (start finish : Count) : List Byte := toBytes n (finish - start).toNat

/-- The flags byte. -/
def Incident.flagBits (x : Incident) : Nat :=
  x.cutShort.toNat + 2 * x.truncated.toNat + 4 * x.moreCauses.toNat + 8 * x.lineStamp.isSome.toNat

/-- One cause entry of the header, 6 bytes; an unused entry is all 0. -/
def causeBytes (openStamp : Count) : Option CauseEntry → List Byte
  | none => [0, 0, 0, 0, 0, 0]
  | some e => [e.cause.code, e.cause.index, code e.count] ++ offsetBytes 3 openStamp e.stamp

/-- The time-mark copy of the header, 15 bytes; absent, every field is 0 (R159). -/
def markBytes : Option MarkCopy → List Byte
  | none => toBytes 15 0
  | some m => (if m.fresh then 1 else 2) :: (toBytes 2 m.number.toNat ++ toBytes 6 m.master.toNat ++ stampBytes m.stamp)

/-- An optional stamp's offset, 0 when absent. -/
def optionalOffset (n : Nat) (openStamp : Count) : Option Count → List Byte
  | none => toBytes n 0
  | some c => offsetBytes n openStamp c

/-- The data of RECORD_HEADER, 56 bytes. -/
def Incident.header (x : Incident) : List Byte :=
  [x.state.code, code x.flagBits, code x.snaps.length, code x.remaining] ++ stampBytes x.openStamp
    ++ optionalOffset 3 x.openStamp x.closeStamp
    ++ causeBytes x.openStamp x.causes[0]? ++ causeBytes x.openStamp x.causes[1]?
    ++ causeBytes x.openStamp x.causes[2]? ++ causeBytes x.openStamp x.causes[3]?
    ++ markBytes x.mark ++ optionalOffset 4 x.openStamp x.lineStamp

def answerRecordHeader (r : Request) (s : State) : Answer :=
  if r.args.length ≠ 2 then refuse s .badRequest
  else
    match s.recorder.incident (r.number 0 2) with
    | none => refuse s .badIndex
    | some x => ⟨s, .ok, x.header, if x.snaps.isEmpty then some x.number else none⟩

/-- RECORD_HEADER (R161). -/
def execRecordHeader (s : State) : Host.Outcome State Fault Refusal :=
  .next (serve (ofKind reqRecordHeader) answerRecordHeader s)

/-! ## RECORD_READ (R162) -/

/-- The sum of 1, 2, 4 and so on up to 128 for the active entries 0 to 7. -/
def activeBits (a : Vector Bool 8) : Nat :=
  a[0].toNat + 2 * a[1].toNat + 4 * a[2].toNat + 8 * a[3].toNat + 16 * a[4].toNat + 32 * a[5].toNat + 64 * a[6].toNat
    + 128 * a[7].toNat

/-- A truck of part 0, 8 bytes. -/
def TruckSnap.bytes (t : TruckSnap) : List Byte :=
  toBytes 2 t.target ++ toBytes 2 t.output ++ optional2 t.feedback ++ [t.relief.code, t.node.code]

/-- Part 0 of a snapshot, 53 bytes. -/
def Snapshot.part0 (draw : Nat) (x : Snapshot) : List Byte :=
  toBytes 4 x.epoch.toNat ++ stampBytes x.time ++ [x.kind.code, x.demand.mode.code] ++ toBytes 2 x.demand.level
    ++ [x.demand.origin.code] ++ toBytes 2 x.demand.floor ++ [flag x.demand.latch, flag x.fallback, code (activeBits x.active)]
    ++ toBytes 2 x.refValue ++ [x.refState.code] ++ toSigned2 x.estimate
    ++ toBytes 2 x.demanded ++ toBytes 2 x.dynamic ++ toBytes 2 x.airTarget ++ total2 draw x.airAchieved
    ++ toBytes 2 x.unplaced ++ toBytes 2 x.shortfall ++ perTruck fun t => x.trucks[t].bytes

/-- An axle of parts 1 and 2, 15 bytes. -/
def AxleSnap.bytes (a : AxleSnap) : List Byte :=
  toBytes 2 a.speed ++ [a.validity.code, a.slide.code] ++ optional2 a.limit ++ optional2 a.ceiling ++ toBytes 2 a.target
    ++ toBytes 2 a.output ++ optional2 a.achieved ++ [a.node.code]

/-- Part 1 of a snapshot, axles 0 to 2, 49 bytes. -/
def Snapshot.part1 (x : Snapshot) : List Byte :=
  toBytes 4 x.epoch.toNat ++ x.axles[0].bytes ++ x.axles[1].bytes ++ x.axles[2].bytes

/-- Part 2 of a snapshot, axles 3 to 5, 49 bytes. -/
def Snapshot.part2 (x : Snapshot) : List Byte :=
  toBytes 4 x.epoch.toNat ++ x.axles[3].bytes ++ x.axles[4].bytes ++ x.axles[5].bytes

/-- One part of one snapshot of a closed incident; `last` says that it is the incident's last snapshot. Part 0 takes a free value
number; part 2 of the last snapshot completes the readout. None for a part above 2. -/
def State.snapshotPart (s : State) (number : Nat) (last : Bool) (x : Snapshot) (part : Nat) : Option Answer :=
  match part with
  | 0 => some (answer s.drawn (x.part0 s.draws))
  | 1 => some (answer s x.part1)
  | 2 => some ⟨s, .ok, x.part2, if last then some number else none⟩
  | _ => none

def answerRecordRead (r : Request) (s : State) : Answer :=
  if r.args.length ≠ 4 then refuse s .badRequest
  else
    match s.recorder.incident (r.number 0 2) with
    | none => refuse s .badIndex
    | some x =>
      if x.state = .opened then refuse s .notClosed
      else
        match x.snaps[r.arg 2]? with
        | none => refuse s .badIndex
        | some y => (s.snapshotPart x.number (r.arg 2 + 1 == x.snaps.length) y (r.arg 3)).getD (refuse s .badValue)

/-- RECORD_READ (R162). -/
def execRecordRead (s : State) : Host.Outcome State Fault Refusal := .next (serve (ofKind reqRecordRead) answerRecordRead s)

/-! ## RECORD_RELEASE (R163) -/

/-- The incident with a number is freed. -/
def State.release (n : Nat) (s : State) : State :=
  s.setRecorder { s.recorder with incidents := s.recorder.incidents.filter fun x => x.number ≠ n }

def answerRecordRelease (r : Request) (s : State) : Answer :=
  if r.args.length ≠ 2 then refuse s .badRequest
  else
    match s.recorder.incident (r.number 0 2) with
    | none => refuse s .badIndex
    | some x =>
      if x.state = .opened then refuse s .notClosed
      else answer (s.release x.number) [x.state.code]

/-- RECORD_RELEASE (R163). -/
def execRecordRelease (s : State) : Host.Outcome State Fault Refusal :=
  .next (serve (ofKind reqRecordRelease) answerRecordRelease s)

end Sys2Proof.Machine
end

