-- ==== Sys2Proof/Machine/StatusRequests.lean ====
section
/-! DEFINITION. Services of READ_STATUS, section by section, and of READ_EVENTS (R53, R138, R148, R170). A READ_STATUS request
belongs to the row of its section; one whose section is missing or above 3 belongs to PART (note 5). -/

namespace Sys2Proof.Machine

/-- The request is a READ_STATUS of a section. -/
def ofSection (n : Nat) (r : Request) : Bool := ofKind reqReadStatus r && decide (1 ≤ r.args.length) && r.arg 0 == n

/-- The request is a READ_STATUS of none of the sections NODES, LINK and SPEED. -/
def ofSectionPart (r : Request) : Bool :=
  ofKind reqReadStatus r && !ofSection 1 r && !ofSection 2 r && !ofSection 3 r

/-! ## PART (R170) -/

/-- A demand source on page 0, 15 bytes. What stands for an absent sequence or payload is not stated (free values, note 14). -/
def SourceRec.bytes (draw : Nat) (r : SourceRec) : List Byte :=
  [r.state.code, flag r.seq.isSome, r.seq.getD (Config.absentSequence draw), flag r.payload.isSome]
    ++ (match r.payload with
        | none => toBytes 5 (Config.absentPayload draw).toNat
        | some p => p.mode.code :: (toBytes 2 p.level ++ toBytes 2 p.floor))
    ++ stampBytes r.stamp

/-- The effective demand on page 0, 7 bytes. -/
def EffDemand.bytes (e : EffDemand) : List Byte :=
  e.mode.code :: (toBytes 2 e.level ++ toBytes 2 e.floor ++ [e.origin.code, flag e.latch])

/-- Page 0, 41 bytes. -/
def State.partPage0 (s : State) : List Byte :=
  [s.agent.part.code, s.agent.cause.code, code s.agent.causeEntry]
    ++ s.demand.sources[0].bytes s.draws ++ s.demand.sources[1].bytes (s.draws + 1)
    ++ s.demand.eff.bytes ++ [flag s.blend.fallback]

/-- A truck on page 1, 5 bytes. -/
def TruckPub.bytes (t : TruckPub) : List Byte := toBytes 2 t.target ++ toBytes 2 t.output ++ [t.relief.code]

/-- Page 1, 36 bytes, from the last publication. -/
def State.partPage1 (s : State) : List Byte :=
  let p := s.blend.pub
  toBytes 4 p.epoch.toNat ++ stampBytes p.time ++ [p.kind.code, code p.interval]
    ++ toBytes 2 p.totals.demanded ++ toBytes 2 p.totals.dynamic ++ toBytes 2 p.totals.airTarget
    ++ total2 s.draws p.totals.airAchieved ++ toBytes 2 p.totals.unplaced
    ++ total2 (s.draws + 1) p.totals.dynamicAchieved ++ toBytes 2 p.totals.shortfall
    ++ perTruck fun t => p.trucks[t].bytes

/-- Page 2, 40 bytes. -/
def State.partPage2 (s : State) : List Byte :=
  perAxle (fun i =>
      s.slide.axles[i].state.code ::
        (optional2 s.slide.axles[i].limit ++ optional2 s.slide.axles[i].ceiling ++ [code s.slide.axles[i].cycles]))
    ++ perTruck fun t => [s.slide.trucks[t].request.code, flag s.slide.trucks[t].lockedOut]

/-- A monitor entry's run state on page 3, 3 bytes. -/
def RunState.bytes (r : RunState) : List Byte := [flag r.active, code r.count, r.side.code]

/-- Page 3, 24 bytes. -/
def State.partPage3 (s : State) : List Byte := monitorEntries.flatMap fun m => s.monitor.runs[m].bytes

/-- The numbers of two free values are used up. -/
def State.drawn2 (s : State) : State := s.drawn.drawn

/-- A page of section PART; none above 3. Pages 0 and 1 take two free values each. -/
def State.partPage (s : State) (page : Nat) : Option Answer :=
  match page with
  | 0 => some (answer s.drawn2 s.partPage0)
  | 1 => some (answer s.drawn2 s.partPage1)
  | 2 => some (answer s s.partPage2)
  | 3 => some (answer s s.partPage3)
  | _ => none

def answerReadStatusPart (r : Request) (s : State) : Answer :=
  if r.args.length = 0 then refuse s .badRequest
  else if r.arg 0 ≠ 0 then refuse s .badIndex
  else if r.args.length ≠ 2 then refuse s .badRequest
  else (s.partPage (r.arg 1)).getD (refuse s .badIndex)

/-- READ_STATUS of section PART (R170). -/
def execReadStatusPart (s : State) : Host.Outcome State Fault Refusal := .next (serve ofSectionPart answerReadStatusPart s)

/-! ## NODES (R138) -/

/-- The data of READ_STATUS section NODES, 57 bytes. -/
def State.nodeData (s : State) (n : NodeSlot) : List Byte :=
  let r := s.node n
  [flag s.tables.node[n].present, r.sup.state.code, flag r.exch.awaiting, r.exch.tag, r.exch.control.code]
    ++ toBytes 2 r.exch.value ++ [code r.sup.goodRun, code r.sup.missRun]
    ++ presence2 r.achieved ++ presence2 r.cap ++ toBytes 4 r.exch.replyTime
    ++ counterBytes r.counts.issued ++ counterBytes r.counts.good ++ counterBytes r.counts.bad
    ++ counterBytes r.counts.missed ++ counterBytes r.counts.abandoned ++ counterBytes r.counts.stray
    ++ counterBytes r.counts.late ++ counterBytes r.counts.notSent ++ counterBytes r.counts.releasesNotSent
    ++ [flag s.order.controlLoss.isSome, code s.inService]

def answerReadStatusNodes (r : Request) (s : State) : Answer :=
  if r.args.length ≠ 2 then refuse s .badRequest
  else if h : r.arg 1 < 8 then answer s (s.nodeData ⟨r.arg 1, h⟩)
  else refuse s .badIndex

/-- READ_STATUS of section NODES (R138). -/
def execReadStatusNodes (s : State) : Host.Outcome State Fault Refusal := .next (serve (ofSection 1) answerReadStatusNodes s)

/-! ## LINK (R21, R170) -/

/-- The five counters of a port in the order of Table 1-22. -/
def PortState.counterBytes (p : PortState) : List Byte :=
  Machine.counterBytes p.good ++ Machine.counterBytes p.badCheck ++ Machine.counterBytes p.badForm
    ++ Machine.counterBytes p.overflow ++ Machine.counterBytes p.transmitted

/-- Page 0, 40 bytes. -/
def LinkBlock.page0 (l : LinkBlock) : List Byte := l.portA.counterBytes ++ l.portB.counterBytes

/-- Page 1, 20 bytes. -/
def LinkBlock.page1 (l : LinkBlock) : List Byte :=
  counterBytes l.unclaimed ++ counterBytes l.demandRefused ++ counterBytes l.sampleRefused ++ counterBytes l.reportsRefused
    ++ counterBytes l.responsesDropped

/-- All fifteen link counters at 0 (R21). -/
def State.clearLinkCounters (s : State) : State := { s with link := s.link.clearCounters }

/-- The answer of section LINK to a clear option and a page that exist. -/
def State.linkAnswer (s : State) (clear : Bool) (page : Nat) : Answer :=
  answer (if clear then s.clearLinkCounters else s) (if page = 0 then s.link.page0 else s.link.page1)

def answerReadStatusLink (r : Request) (s : State) : Answer :=
  if r.args.length ≠ 3 then refuse s .badRequest
  else if 1 < r.arg 2 then refuse s .badIndex
  else if 1 < r.arg 1 then refuse s .badValue
  else s.linkAnswer (r.arg 1 == 1) (r.arg 2)

/-- READ_STATUS of section LINK (R170). -/
def execReadStatusLink (s : State) : Host.Outcome State Fault Refusal := .next (serve (ofSection 2) answerReadStatusLink s)

/-! ## SPEED (R53) -/

/-- An axle of section SPEED, 6 bytes. -/
def AxleSpeed.bytes (a : AxleSpeed) : List Byte := a.validity.code :: (toBytes 2 a.speed ++ toSigned2 a.decel ++ [a.trend.code])

/-- The data of section SPEED, 41 bytes. -/
def State.speedData (s : State) : List Byte := perAxle (fun i => s.speed.axles[i].bytes) ++ s.speed.ref.bytes

def answerReadStatusSpeed (r : Request) (s : State) : Answer :=
  if r.args.length ≠ 1 then refuse s .badRequest else answer s s.speedData

/-- READ_STATUS of section SPEED (R53). -/
def execReadStatusSpeed (s : State) : Host.Outcome State Fault Refusal := .next (serve (ofSection 3) answerReadStatusSpeed s)

/-! ## READ_EVENTS (R148) -/

/-- A pending event, 14 bytes. -/
def PendingEvent.bytes (e : PendingEvent) : List Byte :=
  [e.id.code, e.id.index, code e.count, e.notice.code] ++ stampBytes e.stamp ++ toBytes 4 e.epoch.toNat

/-- The data of READ_EVENTS: how many events stay, and up to four from the head. -/
def eventData (es : List PendingEvent) : List Byte :=
  code (es.drop 4).length :: (es.take 4).flatMap PendingEvent.bytes

def answerReadEvents (r : Request) (s : State) : Answer :=
  if r.args.length ≠ 0 then refuse s .badRequest
  else answer (s.setEvents (s.monitor.events.drop 4)) (eventData s.monitor.events)

/-- READ_EVENTS (R148). -/
def execReadEvents (s : State) : Host.Outcome State Fault Refusal := .next (serve (ofKind reqReadEvents) answerReadEvents s)

end Sys2Proof.Machine
end

