-- ==== Sys2Proof/Machine/TimeRequests.lean ====
section
/-! DEFINITION. Services of TIME_READ, TIME_SET, TIME_CORRECT, READ_TIMEMARK and INJECT_SAMPLE (R27 to R30, R34, R52). -/

namespace Sys2Proof.Machine

/-! ## TIME_READ (R30) -/

/-- The data of TIME_READ, 10 bytes. -/
def TimeBlock.readData (t : TimeBlock) : List Byte := stampBytes t.count ++ toBytes 3 t.value.toNat ++ [t.sense.code]

def answerTimeRead (r : Request) (s : State) : Answer :=
  if r.args.length ≠ 0 then refuse s .badRequest else answer s s.time.readData

/-- TIME_READ (R30). -/
def execTimeRead (s : State) : Host.Outcome State Fault Refusal := .next (serve (ofKind reqTimeRead) answerTimeRead s)

/-! ## TIME_SET (R28, R29) -/

/-- The count takes a new value, the accumulator is cleared, and every timer and stamp is re-based by the step of the load. -/
def State.loadCount (c : Count) (s : State) : State :=
  let s1 := s.rebase (c - s.now)
  { s1 with time := { s1.time with count := c, accumulator := 0 } }

def answerTimeSet (r : Request) (s : State) : Answer :=
  if r.args.length ≠ 6 then refuse s .badRequest
  else
    match s.agent.part with
    | .pass | .config => answer (s.loadCount (BitVec.ofNat 48 (r.number 0 6))) (stampBytes s.now)
    | .run | .failsafe => refuse s .locked

/-- TIME_SET (R28, R29). -/
def execTimeSet (s : State) : Host.Outcome State Fault Refusal := .next (serve (ofKind reqTimeSet) answerTimeSet s)

/-! ## TIME_CORRECT (R27) -/

/-- The corrector is loaded and its accumulator cleared. -/
def State.loadCorrector (v : BitVec 24) (sense : Sense) (s : State) : State :=
  { s with time := { s.time with value := v, sense := sense, accumulator := 0 } }

/-- The sense of a sense byte; none other than 0 and 1. -/
def senseOf : Nat → Option Sense
  | 0 => some .advance
  | 1 => some .retard
  | _ => none

def answerTimeCorrect (r : Request) (s : State) : Answer :=
  if r.args.length ≠ 4 then refuse s .badRequest
  else
    match senseOf (r.arg 3) with
    | none => refuse s .badValue
    | some sense => answer (s.loadCorrector (BitVec.ofNat 24 (r.number 0 3)) sense) []

/-- TIME_CORRECT (R27). -/
def execTimeCorrect (s : State) : Host.Outcome State Fault Refusal :=
  .next (serve (ofKind reqTimeCorrect) answerTimeCorrect s)

/-! ## READ_TIMEMARK (R34) -/

/-- The data of READ_TIMEMARK, 16 bytes; in EMPTY the mark's fields are sent as 0. -/
def MarkCapture.readData (m : MarkCapture) : List Byte :=
  m.state.code ::
    ((if m.state = .empty then toBytes 14 0
      else toBytes 2 m.number.toNat ++ toBytes 6 m.master.toNat ++ stampBytes m.stamp) ++ [code m.discards])

/-- The mark capture after the response has been formed. -/
def State.markWasRead (s : State) : State := { s with time := { s.time with mark := s.time.mark.afterRead } }

def answerReadTimemark (r : Request) (s : State) : Answer :=
  if r.args.length ≠ 0 then refuse s .badRequest else answer s.markWasRead s.time.mark.readData

/-- READ_TIMEMARK (R34). -/
def execReadTimemark (s : State) : Host.Outcome State Fault Refusal :=
  .next (serve (ofKind reqReadTimemark) answerReadTimemark s)

/-! ## INJECT_SAMPLE (R52) -/

/-- The list is taken with the present count as its stamp and the slots 0 to 5 permitted; the data shows the outcomes and the
reference after it. -/
def State.injected (s : State) (list : List Byte) : Answer :=
  let t := takeList 0 5 s.now list s
  answer t.1 (t.2.map Outcome5.code ++ t.1.speed.ref.bytes)

def answerInjectSample (r : Request) (s : State) : Answer :=
  match s.agent.part with
  | .config => if sampleLengthOk r.args.length then s.injected r.args else refuse s .badRequest
  | .pass | .run | .failsafe => refuse s .locked

/-- INJECT_SAMPLE (R52). -/
def execInjectSample (s : State) : Host.Outcome State Fault Refusal :=
  .next (serve (ofKind reqInjectSample) answerInjectSample s)

end Sys2Proof.Machine
end

