-- ==== Sys2Proof/Machine/Dispatch.lean ====
section
/-! DEFINITION. One arm per command of spec/opcode_table.json, each one call of its meaning. -/

namespace Sys2Proof.Machine

def exec (i : Instr) (s : State) : Host.Outcome State Fault Refusal :=
  match i with
  | .powerOnReset straps lineActive => Sys2Proof.Machine.execPowerOnReset straps lineActive s
  | .receptionStart p => Sys2Proof.Machine.execReceptionStart p s
  | .frameArrival p bytes => Sys2Proof.Machine.execFrameArrival p bytes s
  | .transmissionComplete p => Sys2Proof.Machine.execTransmissionComplete p s
  | .countStep => Sys2Proof.Machine.execCountStep s
  | .axleAgeExpiry axle => Sys2Proof.Machine.execAxleAgeExpiry axle s
  | .referenceHoldExpiry => Sys2Proof.Machine.execReferenceHoldExpiry s
  | .demandLossExpiry d => Sys2Proof.Machine.execDemandLossExpiry d s
  | .epochTimerExpiry => Sys2Proof.Machine.execEpochTimerExpiry s
  | .slideHoldExpiry axle => Sys2Proof.Machine.execSlideHoldExpiry axle s
  | .reliefLockoutExpiry t => Sys2Proof.Machine.execReliefLockoutExpiry t s
  | .exchangeDeadlineExpiry n => Sys2Proof.Machine.execExchangeDeadlineExpiry n s
  | .controlLossExpiry => Sys2Proof.Machine.execControlLossExpiry s
  | .lineActiveEdge => Sys2Proof.Machine.execLineActiveEdge s
  | .lineInactiveEdge => Sys2Proof.Machine.execLineInactiveEdge s
  | .lineDebounceExpiry => Sys2Proof.Machine.execLineDebounceExpiry s
  | .getState => Sys2Proof.Machine.execGetState s
  | .setState => Sys2Proof.Machine.execSetState s
  | .readEntry => Sys2Proof.Machine.execReadEntry s
  | .writeEntry => Sys2Proof.Machine.execWriteEntry s
  | .readStatusPart => Sys2Proof.Machine.execReadStatusPart s
  | .readStatusNodes => Sys2Proof.Machine.execReadStatusNodes s
  | .readStatusLink => Sys2Proof.Machine.execReadStatusLink s
  | .readStatusSpeed => Sys2Proof.Machine.execReadStatusSpeed s
  | .readEvents => Sys2Proof.Machine.execReadEvents s
  | .nodeCut => Sys2Proof.Machine.execNodeCut s
  | .nodeRestore => Sys2Proof.Machine.execNodeRestore s
  | .clearFallback => Sys2Proof.Machine.execClearFallback s
  | .trigger => Sys2Proof.Machine.execTrigger s
  | .recordList => Sys2Proof.Machine.execRecordList s
  | .recordHeader => Sys2Proof.Machine.execRecordHeader s
  | .recordRead => Sys2Proof.Machine.execRecordRead s
  | .recordRelease => Sys2Proof.Machine.execRecordRelease s
  | .timeRead => Sys2Proof.Machine.execTimeRead s
  | .timeSet => Sys2Proof.Machine.execTimeSet s
  | .timeCorrect => Sys2Proof.Machine.execTimeCorrect s
  | .readTimemark => Sys2Proof.Machine.execReadTimemark s
  | .injectSample => Sys2Proof.Machine.execInjectSample s
  | .reset => Sys2Proof.Machine.execReset s
  | .mgmtUnknownKind => Sys2Proof.Machine.execMgmtUnknownKind s

end Sys2Proof.Machine
end

