-- ==== Sys2Proof/Safety.lean ====
section
/-! DEFINITION. What the claims say of states: a request and its answer, a command that is carried out, and the invariants of the
part's blocks (R17 to R19, R61, R103, R105, R117, R131, R137, R146, R151, R157, R158, R166, R174). -/

namespace Sys2Proof.Machine

/-! ## Requests and their answers -/

/-- The request at the head of the queue, those behind it, and its kind. -/
def State.asks (s : State) (r : Request) (rest : List Request) (kind : Byte) : Prop :=
  s.agent.queue = r :: rest ∧ r.kind = kind

/-- The state after a response has been offered and its request has left the queue (R166). -/
def State.replied (s : State) (r : Request) (st : Status) (data : List Byte) : State := (s.respond r st data).popRequest

/-- The command answers with a next state of which `after` holds. -/
def Carried (c : Instr) (s : State) (after : State → Prop) : Prop := ∃ t, exec c s = .next t ∧ after t

/-- Every step from a state in which `inv` holds leads to one in which it holds. -/
def KeptByEveryStep (inv : State → Prop) : Prop := ∀ s t, inv s → step s = .next t → inv t

/-! ## Management and links -/

/-- The control-valid line is active in RUN and inactive in every other state (R174). -/
def State.controlLineRight (s : State) : Prop := s.agent.controlValid = decide (s.agent.part = .run)

/-- The bounds of a port's queues and run count, and an IDLE line with nothing to send (R17, R18, R19). -/
structure PortState.Bounded (p : PortState) : Prop where
  forward : p.forward.length ≤ 16
  originated : p.originated.length ≤ 12
  run : p.run ≤ 4
  idle : p.line = .idle → p.forward = [] ∧ p.originated = []

/-- Both ports and the request queue lie within their bounds (R17, R18, R19, R166). -/
structure State.QueuesBounded (s : State) : Prop where
  portA : s.link.portA.Bounded
  portB : s.link.portB.Bounded
  requests : s.agent.queue.length ≤ 4

/-! ## Order unit -/

/-- The issued count equals the outcomes, plus 1 while the exchange is AWAITING, modulo 2^32 (R131). -/
def NodeRec.Balanced (r : NodeRec) : Prop :=
  r.counts.issued =
    r.counts.good + r.counts.bad + r.counts.missed + r.counts.abandoned + (if r.exch.awaiting then 1 else 0)

/-- The balance holds for every node (R131). -/
def State.OutcomesBalanced (s : State) : Prop := ∀ n : NodeSlot, (s.node n).Balanced

/-! ## Outside RUN -/

/-- What leaving RUN leaves and nothing outside RUN changes: no effort is commanded, no timer of a block that runs in RUN runs, no
exchange waits, no incident is OPEN (R64, R90, R103, R105, R137, R158). -/
structure State.AtRest (s : State) : Prop where
  epochTimer : s.blend.timer = none
  axles : ∀ i : AxleSlot, s.blend.axles[i] = AxleDrive.zero
  trucks : ∀ t : TruckSlot, s.blend.trucks[t] = TruckDrive.zero
  lossTimers : ∀ d : SourceSlot, s.demand.sources[d].timer = none
  slide : ∀ i : AxleSlot, s.slide.axles[i].rest = s.slide.axles[i]
  relief : ∀ t : TruckSlot, s.slide.trucks[t] = TruckSlide.powerOn
  exchanges : ∀ n : NodeSlot, (s.node n).exch.awaiting = false ∧ (s.node n).exch.deadline = none
  controlLoss : s.order.controlLoss = none
  incidents : ∀ x ∈ s.recorder.incidents, x.state ≠ .opened

/-- The part is at rest in every state but RUN. -/
def State.RestsOutsideRun (s : State) : Prop := s.agent.part ≠ .run → s.AtRest

/-! ## Start values -/

/-- Every counter of a port and every part-wide counter is 0 (R21). -/
structure LinkBlock.CountersZero (l : LinkBlock) : Prop where
  ports : ∀ p, (l.port p).good = 0 ∧ (l.port p).badCheck = 0 ∧ (l.port p).badForm = 0 ∧ (l.port p).overflow = 0 ∧
    (l.port p).transmitted = 0
  part : l.unclaimed = 0 ∧ l.demandRefused = 0 ∧ l.sampleRefused = 0 ∧ l.reportsRefused = 0 ∧ l.responsesDropped = 0

/-- The axle records' speed part and the reference record at their start, enabled and pulse distance as the AXLE table gives them
(R36, R46). -/
structure State.SpeedAtStart (s : State) : Prop where
  axles : ∀ i : AxleSlot, s.speed.axles[i] =
    { enabled := s.tables.axle[i].enabled, pulse := s.tables.axle[i].pulse, speed := 0, stamp := 0, prevStamp := 0, decel := 0
      trend := .flat, lastTrend := none, validity := .unknown, ageTimer := none }
  reference : s.speed.ref = { value := 0, state := .invalid, estimate := 0, lastUpdate := 0, holdTimer := none }

/-- The source records at their start, with their loss timers as given, and the effective demand (R54, R64). -/
structure State.DemandAtStart (s : State) (timer : Timer) : Prop where
  sources : ∀ d : SourceSlot,
    s.demand.sources[d] = { state := .never, seq := none, payload := none, stamp := 0, timer := timer }
  effective : s.demand.eff = { mode := .release, level := 0, floor := 0, origin := .source0, latch := false }

/-- The blend engine at its start: epoch timer, time of the publication and reference in it as given, all else 0 (R90, R103). -/
structure State.BlendAtStart (s : State) (timer : Timer) (time : Count) (refValue : Nat) (refState : RefState) (estimate : Int) :
    Prop where
  epoch : s.blend.epoch = 0
  timer : s.blend.timer = timer
  axles : ∀ i : AxleSlot, s.blend.axles[i] = { target := 0, output := 0, slope := 0 }
  trucks : ∀ k : TruckSlot, s.blend.trucks[k] = { target := 0, output := 0 }
  unplaced : s.blend.prevUnplaced = 0
  fallback : s.blend.fallback = false
  pubEpoch : s.blend.pub.epoch = 0 ∧ s.blend.pub.time = time ∧ s.blend.pub.kind = .regular ∧
    s.blend.pub.interval = s.tables.blend.period
  pubDemand : s.blend.pub.demand = { mode := .release, level := 0, floor := 0, origin := .source0, latch := false } ∧
    s.blend.pub.fallback = false
  pubReference : s.blend.pub.refValue = refValue ∧ s.blend.pub.refState = refState ∧ s.blend.pub.estimate = estimate
  pubTotals : s.blend.pub.totals =
    { demanded := 0, dynamic := 0, airTarget := 0, airAchieved := 0, unplaced := 0, dynamicAchieved := 0, shortfall := 0 }
  pubTrucks : ∀ k : TruckSlot, s.blend.pub.trucks[k] = { target := 0, output := 0, relief := .calm }
  pubAxles : ∀ i : AxleSlot, s.blend.pub.axles[i] = { target := 0, output := 0 }

/-- Every axle and truck of the slide controller at rest, slip and onset count included (R105). -/
structure State.SlideAtStart (s : State) : Prop where
  axles : ∀ i : AxleSlot, s.slide.axles[i] =
    { state := .normal, onset := 0, limit := none, ceiling := none, slip := 0, holdTimer := none, cycles := 0 }
  trucks : ∀ k : TruckSlot, s.slide.trucks[k] = { request := .calm, timer := none, lockedOut := false }

/-- The records of every node slot at the reset values of Table 8-2, with the supervision state of each as given (R123). -/
def State.NodesAtStart (s : State) (state : NodeSlot → NodeState) : Prop :=
  ∀ n : NodeSlot, s.node n =
    { sup := { state := state n, goodRun := 0, missRun := 0 }
      exch := { awaiting := false, tag := 0, control := .releaseControl, value := 0, issued := 0, deadline := none
                lastMissed := none, replyTime := 0 }
      achieved := none, cap := none
      counts := { issued := 0, good := 0, bad := 0, missed := 0, abandoned := 0, stray := 0, late := 0, notSent := 0
                  releasesNotSent := 0 } }

/-- Every monitor entry's run state at its start (R145). -/
def State.RunsAtStart (s : State) : Prop :=
  ∀ m : Fin 8, s.monitor.runs[m] = { active := false, count := 0, side := .unknown }

/-- Every parameter table at its power-on values (Tables 2-4, 3-2, 4-2, 5-1 to 5-3, 6-1, 7-2, 8-1, 9-1, 10-1; R36, R136, R147). -/
structure Tables.AtPowerOn (t : Tables) : Prop where
  classify : ∀ k : Fin 32, t.classify[k].valid = false
  axle : ∀ i : AxleSlot, t.axle[i] = { enabled := true, pulse := 31416 }
  node : ∀ n : NodeSlot, t.node[n] = { present := false, address := 0, join := 4, degrade := 3, lost := 10, response := 8 }
  curve : t.curve.count = 4 ∧ t.curve.points.toList =
    [⟨0, 0⟩, ⟨500, 700⟩, ⟨6000, 700⟩, ⟨12000, 250⟩] ++ List.replicate 12 ⟨0, 0⟩
  blend : t.blend =
    { fullService := 4000, axleLimit := 700, period := 20, airLead := 1500, degraded := 128, dynInEmergency := false
      penalty := 700, demandLoss := 400, protection := false, controlLoss := 1000 }
  truck : ∀ k : TruckSlot, t.truck[k] = { airPresent := true, dead := 35, gain := 480, maximum := 420, emergency := 400 }
  ramp : t.ramp = { application := 600, release := 1200, jerk := 1500, airApplication := 150, airRelease := 300 }
  speed : t.speed = { ageLimit := 100, decelLimit := 400, accelLimit := 200, holdTime := 1000, trendBand := 50 }
  slide : t.slide =
    { minSpeed := 300, slipOnset := 60, slipRelease := 25, absoluteOnset := 250, decelOnset := 1200, onsetCount := 2
      reliefFactor := 160, ceilingFactor := 224, holdTime := 150, reapplyRate := 300, recoveryRate := 50, cycleLimit := 8
      lockoutTime := 3000 }
  monitor : ∀ m : Fin 8, t.monitor[m] =
    { enabled := false, source := .refSpeed, condition := .above, threshold := 0, hysteresis := 0, persistence := 1
      event := false, record := false, airFallback := false, failsafe := false }
  recorder : t.recorder =
    { depth := 16, post := 32, maximum := 96, extension := true, policy := .keepUnread, keepTime := 600, causeMask := 63
      debounce := 10 }
  time : t.time = { policy := .holdUntilRead, hold := 2000 }
  link : t.link = { noticeAddress := 0, noticePort := .a }

/-! ## Entries of the parameter tables -/

/-- The table id and entry index that name an entry (Table 11-3). -/
def TableRef.name : TableRef → Nat × Nat
  | .classify i => (1, i.val)
  | .axle i => (2, i.val)
  | .node n => (3, n.val)
  | .curvePoint k => (4, k.val)
  | .curveCount => (4, 16)
  | .blend => (5, 0)
  | .truck k => (6, k.val)
  | .ramp => (7, 0)
  | .speed => (8, 0)
  | .slide => (9, 0)
  | .monitor m => (10, m.val)
  | .recorder => (11, 0)
  | .time => (12, 0)
  | .link => (13, 0)

/-- The range of every field of an entry, in the order in which the fields are carried (Tables 1-16, 2-4, 3-2, 4-2, 5-1 to 5-3, 6-1,
7-2, 8-1, 9-1, 10-1; R36, R136, R147; the action set 0 to 15, the threshold in two's complement). -/
def TableRef.ranges : TableRef → List Field
  | .classify _ => [⟨0, 1⟩, ⟨1, 255⟩, ⟨0, 255⟩, ⟨0, 2⟩, ⟨0, 3⟩, ⟨0, 5⟩, ⟨0, 255⟩, ⟨0, 255⟩]
  | .axle _ => [⟨0, 1⟩, ⟨10000, 60000⟩]
  | .node _ => [⟨0, 1⟩, ⟨0, 239⟩, ⟨1, 16⟩, ⟨1, 16⟩, ⟨2, 64⟩, ⟨1, 99⟩]
  | .curvePoint _ => [⟨0, 20000⟩, ⟨0, 1500⟩]
  | .curveCount => [⟨2, 16⟩]
  | .blend => [⟨100, 8000⟩, ⟨0, 1500⟩, ⟨5, 100⟩, ⟨0, 4000⟩, ⟨0, 256⟩, ⟨0, 1⟩, ⟨0, 1000⟩, ⟨100, 2000⟩, ⟨0, 1⟩, ⟨100, 5000⟩]
  | .truck _ => [⟨0, 1⟩, ⟨0, 100⟩, ⟨1, 1023⟩, ⟨100, 500⟩, ⟨100, 500⟩]
  | .ramp => [⟨1, 20000⟩, ⟨1, 20000⟩, ⟨0, 50000⟩, ⟨1, 2000⟩, ⟨1, 2000⟩]
  | .speed => [⟨10, 1000⟩, ⟨50, 2000⟩, ⟨50, 2000⟩, ⟨50, 5000⟩, ⟨0, 2000⟩]
  | .slide => [⟨0, 2000⟩, ⟨10, 500⟩, ⟨0, 500⟩, ⟨50, 2000⟩, ⟨100, 10000⟩, ⟨1, 4⟩, ⟨0, 255⟩, ⟨0, 256⟩, ⟨20, 2000⟩, ⟨1, 20000⟩,
      ⟨1, 20000⟩, ⟨1, 32⟩, ⟨200, 10000⟩]
  | .monitor _ => [⟨0, 1⟩, ⟨1, 10⟩, ⟨0, 255⟩, ⟨0, 4⟩, ⟨0, 65535⟩, ⟨0, 65535⟩, ⟨1, 16⟩, ⟨0, 15⟩]
  | .recorder => [⟨0, 32⟩, ⟨1, 64⟩, ⟨1, 128⟩, ⟨0, 1⟩, ⟨0, 2⟩, ⟨1, 3600⟩, ⟨0, 63⟩, ⟨1, 100⟩]
  | .time => [⟨0, 2⟩, ⟨100, 60000⟩]
  | .link => [⟨0, 255⟩, ⟨0, 1⟩]

/-- The data bytes of an entry: a field takes one byte when its range ends at or below 255, and two otherwise (Table 11-3). -/
def TableRef.size (e : TableRef) : Nat := (e.ranges.map fun x => if x.hi ≤ 255 then 1 else 2).sum

/-- The field values form no combination that the owning chapter refuses: a role argument that does not suit its role and a role
paired with another kind (R10), a present node without an address or with the own one (R122), a source index that does not suit its
source kind (R140), the own address as notice address (section 9.7). -/
def TableRef.suits (e : TableRef) (own : Byte) (v : Nat → Nat) : Prop :=
  match e with
  | .classify _ =>
    (v 5 ∈ [0, 1, 2, 5] → v 6 = 0 ∧ v 7 = 0) ∧ (v 5 = 3 → v 6 ≤ v 7 ∧ v 7 ≤ 5) ∧ (v 5 = 4 → v 6 ≤ 7 ∧ v 7 = 0) ∧
      (v 5 = 1 ∨ v 5 = 2 → v 2 = 0x11) ∧ (v 5 = 3 → v 2 = 0x21) ∧ (v 5 = 4 → v 2 = 0x32) ∧ (v 5 = 5 → v 2 = 0x41)
  | .node _ => v 0 = 1 → v 1 ≠ 0 ∧ v 1 ≠ own.toNat
  | .monitor _ => (v 1 ≤ 8 → v 2 = 0) ∧ (v 1 = 9 → v 2 ≤ 5) ∧ (v 1 = 10 → v 2 = 1 ∨ v 2 = 2)
  | .link => v 0 ≠ own.toNat
  | .axle _ | .curvePoint _ | .curveCount | .blend | .truck _ | .ramp | .speed | .slide | .recorder | .time => True

/-- The entry stands in the tables with these field values, numbered in the order in which they are carried. -/
def Tables.holds (t : Tables) (e : TableRef) (v : Nat → Nat) : Prop :=
  match e with
  | .classify i =>
    t.classify[i].valid = decide (v 0 = 1) ∧ t.classify[i].source = BitVec.ofNat 8 (v 1) ∧
      t.classify[i].kind = BitVec.ofNat 8 (v 2) ∧ [PortSel.a, .b, .either][v 3]? = some t.classify[i].port ∧
      [Action.forward, .observe, .consume, .drop][v 4]? = some t.classify[i].action ∧
      (match t.classify[i].role with
        | .noRole => v 5 = 0
        | .demand d => v 5 = d.val + 1
        | .axleSample x y => v 5 = 3 ∧ v 6 = x.val ∧ v 7 = y.val
        | .report n => v 5 = 4 ∧ v 6 = n.val
        | .timeMark => v 5 = 5)
  | .axle i => t.axle[i] = { enabled := decide (v 0 = 1), pulse := v 1 }
  | .node n =>
    t.node[n] = { present := decide (v 0 = 1), address := BitVec.ofNat 8 (v 1), join := v 2, degrade := v 3, lost := v 4
                  response := v 5 }
  | .curvePoint k => t.curve.points[k] = { speed := v 0, effort := v 1 }
  | .curveCount => t.curve.count = v 0
  | .blend =>
    t.blend = { fullService := v 0, axleLimit := v 1, period := v 2, airLead := v 3, degraded := v 4
                dynInEmergency := decide (v 5 = 1), penalty := v 6, demandLoss := v 7, protection := decide (v 8 = 1)
                controlLoss := v 9 }
  | .truck k => t.truck[k] = { airPresent := decide (v 0 = 1), dead := v 1, gain := v 2, maximum := v 3, emergency := v 4 }
  | .ramp => t.ramp = { application := v 0, release := v 1, jerk := v 2, airApplication := v 3, airRelease := v 4 }
  | .speed => t.speed = { ageLimit := v 0, decelLimit := v 1, accelLimit := v 2, holdTime := v 3, trendBand := v 4 }
  | .slide =>
    t.slide = { minSpeed := v 0, slipOnset := v 1, slipRelease := v 2, absoluteOnset := v 3, decelOnset := v 4
                onsetCount := v 5, reliefFactor := v 6, ceilingFactor := v 7, holdTime := v 8, reapplyRate := v 9
                recoveryRate := v 10, cycleLimit := v 11, lockoutTime := v 12 }
  | .monitor m =>
    t.monitor[m].enabled = decide (v 0 = 1) ∧
      (match t.monitor[m].source with
        | .refSpeed => v 1 = 1 | .decelEstimate => v 1 = 2 | .demandedEffort => v 1 = 3 | .dynamicTarget => v 1 = 4
        | .dynamicAchieved => v 1 = 5 | .airAchieved => v 1 = 6 | .shortfall => v 1 = 7 | .airUnplaced => v 1 = 8
        | .axleSlip i => v 1 = 9 ∧ v 2 = i.val
        | .truckPressure k => v 1 = 10 ∧ v 2 = k.val + 1) ∧
      [MonCondition.above, .below, .crossUp, .crossDown, .crossAny][v 3]? = some t.monitor[m].condition ∧
      t.monitor[m].threshold = (if v 4 < 32768 then (v 4 : Int) else (v 4 : Int) - 65536) ∧ t.monitor[m].hysteresis = v 5 ∧
      t.monitor[m].persistence = v 6 ∧ t.monitor[m].event = decide (v 7 % 2 = 1) ∧
      t.monitor[m].record = decide (v 7 / 2 % 2 = 1) ∧ t.monitor[m].airFallback = decide (v 7 / 4 % 2 = 1) ∧
      t.monitor[m].failsafe = decide (v 7 / 8 % 2 = 1)
  | .recorder =>
    t.recorder.depth = v 0 ∧ t.recorder.post = v 1 ∧ t.recorder.maximum = v 2 ∧ t.recorder.extension = decide (v 3 = 1) ∧
      [StorePolicy.overwriteOldest, .keepUnread, .keepTimed][v 4]? = some t.recorder.policy ∧ t.recorder.keepTime = v 5 ∧
      t.recorder.causeMask = v 6 ∧ t.recorder.debounce = v 7
  | .time => [MarkPolicy.overwrite, .holdUntilRead, .holdWithExpiry][v 0]? = some t.time.policy ∧ t.time.hold = v 1
  | .link => t.link.noticeAddress = BitVec.ofNat 8 (v 0) ∧ [Port.a, .b][v 1]? = some t.link.noticePort

/-! ## In service -/

/-- The node is present and its supervision state ACTIVE or DEGRADED (R73, R78, R82, R85, R95, R136). -/
abbrev State.serves (s : State) (n : NodeSlot) : Prop :=
  s.tables.node[n].present = true ∧ ((s.node n).sup.state = .active ∨ (s.node n).sup.state = .degraded)

/-- The number of nodes in service (R136). -/
def State.servingNodes (s : State) : Nat :=
  nodeSlots.countP fun n => s.tables.node[n].present &&
    ((s.node n).sup.state == .active || (s.node n).sup.state == .degraded)

/-! ## Demand and slide -/

/-- The emergency latch and the effective mode agree, and level and floors lie in their ranges (R57, R60, R61). -/
structure State.DemandSound (s : State) : Prop where
  latch : s.demand.eff.mode = .emergency ↔ s.demand.eff.latch = true
  level : s.demand.eff.level ≤ 1000
  floor : s.demand.eff.floor ≤ 500
  payloads : ∀ (d : SourceSlot) (p : DemandPayload), s.demand.sources[d].payload = some p → p.level ≤ 1000 ∧ p.floor ≤ 500
  penalty : s.tables.blend.penalty ≤ 1000

/-- An axle has a slide limit exactly when it is not NORMAL, and then a ceiling that the limit does not exceed (R111 to R117). -/
def AxleSlide.Sound (a : AxleSlide) : Prop :=
  if a.state = .normal then a.limit = none
  else ∃ l c, a.limit = some l ∧ a.ceiling = some c ∧ l ≤ c

/-- Every axle's limit and ceiling agree with its state; the relief factor is one that WRITE_ENTRY accepts. -/
structure State.SlideSound (s : State) : Prop where
  axles : ∀ i : AxleSlot, s.slide.axles[i].Sound
  factor : s.tables.slide.reliefFactor ≤ 255

/-! ## Events and incidents -/

/-- At most one pending event of each kind and index, each with an occurrence count of 1 to 255 (R146). -/
structure State.EventsDistinct (s : State) : Prop where
  distinct : (s.monitor.events.map PendingEvent.id).Nodup
  counts : ∀ e ∈ s.monitor.events, 1 ≤ e.count ∧ e.count ≤ 255

/-- The incident store's bounds and numbering (R155, R157), with what an OPEN incident reserves. -/
structure State.StoreSound (s : State) : Prop where
  entries : s.recorder.incidents.length ≤ 16
  slots : slotsHeld s.recorder.incidents ≤ 1024
  oneOpen : (s.recorder.incidents.countP fun x => x.state = .opened) ≤ 1
  numbers : (s.recorder.incidents.map Incident.number).Nodup
  unused : s.recorder.nextNumber ∉ s.recorder.incidents.map Incident.number
  range : 1 ≤ s.recorder.nextNumber ∧ s.recorder.nextNumber ≤ 65535
  opened : ∀ x ∈ s.recorder.incidents, x.state = .opened →
    s.agent.part = .run ∧ 1 ≤ x.remaining ∧ x.reserved = x.snaps.length + x.remaining
  post : 1 ≤ s.tables.recorder.post

/-- Epoch numbers rise by one from snapshot to snapshot (R151). -/
def risingEpochs : List Snapshot → Prop
  | x :: y :: rest => y.epoch = x.epoch + 1 ∧ risingEpochs (y :: rest)
  | _ => True

/-- The pre-trigger ring: consecutive epochs, and in RUN at most the pre-trigger depth, up to the last epoch taken (R151). -/
structure State.RingSound (s : State) : Prop where
  rising : risingEpochs s.recorder.ring
  depth : s.agent.part = .run → s.recorder.ring.length ≤ s.tables.recorder.depth
  latest : s.agent.part = .run → ∀ x, s.recorder.ring.getLast? = some x → x.epoch = s.blend.epoch
  published : s.blend.pub.epoch = s.blend.epoch

end Sys2Proof.Machine
end

