-- ==== Sys2Proof/Certificates/Slice0/Obligations.lean ====
section
/-! DEFINITION. The statements for the provers. Sys2Proof/Safety.lean has their vocabulary: `asks` (the request at the head of the
queue), `replied` (its response offered, the request gone from the queue), `Carried` (the command answers a next state of which the
rest holds), `serves` (the node is in service), the start values of each block, the names, ranges and contents of the table entries,
and the invariants. Where a statement gives the next state as an equation, all that the equation does not change is
unchanged: that is the command's frame. -/

open Sys2Proof Sys2Proof.Machine

/-! ## The machine -/

/-- A step takes the command at the front of the queue and carries it out on the state with the queue's rest (section 2 of the
scope; the queue is the model's own). -/
def Obligations.StepRunsTheFrontCommand : Prop :=
  ∀ (c : Instr) (rest : List Instr) (s : State),
    step { s with pending := c :: rest } = exec c { s with pending := rest }

/-- Every command answers a next state, in every state, and leaves the commands that wait alone: the part has no fault, and no
command of the table is without its meaning (model choice: notes 2 and 25). -/
def Obligations.EveryCommandIsCarriedOut : Prop :=
  ∀ (c : Instr) (s : State), Carried c s fun t => t.pending = s.pending

/-- POWER_ON_RESET (R175, R1, R23, R35, R36, R46, R54, R90, R105, R123, R145, R158): every block and every table takes its power-on
values. The RUN entry time, to which no rule gives one, has no clause (note 18). -/
def Obligations.PowerOnResetValues : Prop :=
  ∀ (straps : BitVec 4) (level : Bool) (s : State), Carried (.powerOnReset straps level) s fun t =>
    t.link.own = 0xE0 + straps.setWidth 8 ∧ t.link.txSeq = 0 ∧
    (∀ p, (t.port p).forward = [] ∧ (t.port p).originated = [] ∧ (t.port p).line = .idle ∧ (t.port p).run = 0
      ∧ (t.port p).rx = none) ∧ t.link.CountersZero ∧
    t.time = { count := 0, value := 0, sense := .advance, accumulator := 0
               mark := { state := .empty, number := 0, master := 0, stamp := 0, discards := 0 } } ∧
    t.SpeedAtStart ∧ t.DemandAtStart none ∧ t.BlendAtStart none 0 0 .invalid 0 ∧ t.SlideAtStart ∧
    t.NodesAtStart (fun _ => .absent) ∧ t.order.controlLoss = none ∧ t.RunsAtStart ∧ t.monitor.events = [] ∧
    t.recorder = { ring := [], incidents := [], nextNumber := 1, lost := 0, lineActive := level, edge := none, debounce := none } ∧
    t.agent = { part := .pass, controlValid := false, cause := .clear, causeEntry := 0, lastValidation := 0, queue := [] } ∧
    t.tables.AtPowerOn ∧ t.pending = s.pending

/-! ## Time base -/

/-- COUNT_STEP (R23, R26). One step moves the count by 1, or by 2 or 0 on a carry of the corrector, and nothing else changes. After
n steps the count has gained (ADVANCE) or lost (RETARD) as many steps as the accumulator has carried: the whole part of
(accumulator + n × value) / 2^24. -/
def Obligations.CountStepsFollowTheCorrector : Prop :=
  (∀ s : State, exec .countStep s = .next { s with time := { s.time with
    count := s.time.count +
      (if s.time.accumulator.toNat + s.time.value.toNat < 2 ^ 24 ∨ s.time.value = 0 then 1
        else if s.time.sense = .advance then 2 else 0)
    accumulator := s.time.accumulator + s.time.value } }) ∧
  (∀ (n : Nat) (s : State),
    let sum := s.time.accumulator.toNat + n * s.time.value.toNat
    Sys2Proof.core.run n (s.withPending (List.replicate n .countStep)) = .next
      { s with
        pending := []
        time := { s.time with
          count := BitVec.ofNat 48 (s.time.count.toNat + n +
            (match s.time.sense with | .advance => sum / 2 ^ 24 | .retard => 0) -
            (match s.time.sense with | .advance => 0 | .retard => sum / 2 ^ 24))
          accumulator := BitVec.ofNat 24 sum } })

/-- TIME_READ, READ_TIMEMARK and TIME_CORRECT (R27, R30, R34): checks, effects and data. -/
def Obligations.TimeBaseServices : Prop :=
  ∀ (s : State) (r : Request) (rest : List Request),
    (s.asks r rest 0x20 → exec .timeRead s = .next (
      if r.args = [] then
        s.replied r .ok
          (toBytes 6 s.time.count.toNat ++ toBytes 3 s.time.value.toNat ++ [if s.time.sense = .advance then 0 else 1])
      else s.replied r .badRequest [])) ∧
    (s.asks r rest 0x23 → exec .readTimemark s = .next (
      let m := s.time.mark
      if r.args = [] then
        State.replied
          { s with time := { s.time with
            mark := { m with discards := 0, state := if m.state = .empty then .empty else .read } } }
          r .ok
          ((match m.state with | .empty => 0 | .fresh => 1 | .read => 2 : Byte) ::
            (if m.state = .empty then List.replicate 14 (0 : Byte)
              else toBytes 2 m.number.toNat ++ toBytes 6 m.master.toNat ++ toBytes 6 m.stamp.toNat) ++
            [BitVec.ofNat 8 m.discards])
      else s.replied r .badRequest [])) ∧
    (s.asks r rest 0x22 → exec .timeCorrect s = .next (
      if r.args.length ≠ 4 then s.replied r .badRequest []
      else if 1 < (r.args.getD 3 0).toNat then s.replied r .badValue []
      else
        State.replied
          { s with time := { s.time with
            value := BitVec.ofNat 24 (ofBytes (r.args.take 3))
            sense := if r.args.getD 3 0 = 0 then .advance else .retard
            accumulator := 0 } }
          r .ok []))

/-- TIME_SET (R28, R29): refused outside PASS and CONFIG; otherwise the count is loaded, and every running timer and every stamp
moves by the step of the load: those of incidents, their causes, mark copies, line stamps and snapshots too. What stands for "no
stamp" (an EMPTY mark capture, a source that has sent no frame) stays as it is (model choice, note 17). -/
def Obligations.TimeSetMovesTimersAndStamps : Prop :=
  ∀ (s : State) (r : Request) (rest : List Request), s.asks r rest 0x21 →
    (r.args.length ≠ 6 → exec .timeSet s = .next (s.replied r .badRequest [])) ∧
    (r.args.length = 6 → s.agent.part = .run ∨ s.agent.part = .failsafe →
      exec .timeSet s = .next (s.replied r .locked [])) ∧
    (r.args.length = 6 → s.agent.part = .pass ∨ s.agent.part = .config →
      ∃ u : State, exec .timeSet s = .next (u.replied r .ok (toBytes 6 s.time.count.toNat)) ∧
        let new := BitVec.ofNat 48 (ofBytes r.args)
        let d := new - s.time.count
        let movedSnap (x : Snapshot) : Snapshot := { x with time := x.time + d }
        u.time.count = new ∧ u.time.accumulator = 0 ∧ u.time.value = s.time.value ∧ u.time.sense = s.time.sense ∧
        u.time.mark = { s.time.mark with
          stamp := if s.time.mark.state = .empty then s.time.mark.stamp else s.time.mark.stamp + d } ∧
        (∀ p, u.port p = { s.port p with rx := (s.port p).rx.map (· + d) }) ∧ u.link.own = s.link.own ∧
        u.link.txSeq = s.link.txSeq ∧ u.link.unclaimed = s.link.unclaimed ∧ u.link.demandRefused = s.link.demandRefused ∧
        u.link.sampleRefused = s.link.sampleRefused ∧ u.link.reportsRefused = s.link.reportsRefused ∧
        u.link.responsesDropped = s.link.responsesDropped ∧
        (∀ i : AxleSlot, u.speed.axles[i] = { s.speed.axles[i] with
          stamp := s.speed.axles[i].stamp + d, prevStamp := s.speed.axles[i].prevStamp + d
          ageTimer := s.speed.axles[i].ageTimer.map (· + d) }) ∧
        u.speed.ref = { s.speed.ref with
          lastUpdate := s.speed.ref.lastUpdate + d, holdTimer := s.speed.ref.holdTimer.map (· + d) } ∧
        (∀ k : SourceSlot, u.demand.sources[k] = { s.demand.sources[k] with
          stamp := if s.demand.sources[k].payload.isSome then s.demand.sources[k].stamp + d else s.demand.sources[k].stamp
          timer := s.demand.sources[k].timer.map (· + d) }) ∧
        u.demand.eff = s.demand.eff ∧
        u.blend = { s.blend with
          runEntry := s.blend.runEntry + d, timer := s.blend.timer.map (· + d)
          pub := { s.blend.pub with time := s.blend.pub.time + d } } ∧
        (∀ i : AxleSlot, u.slide.axles[i] = { s.slide.axles[i] with
          holdTimer := s.slide.axles[i].holdTimer.map (· + d) }) ∧
        (∀ k : TruckSlot, u.slide.trucks[k] = { s.slide.trucks[k] with timer := s.slide.trucks[k].timer.map (· + d) }) ∧
        (∀ n : NodeSlot, u.node n = { s.node n with
          exch := { (s.node n).exch with
            issued := (s.node n).exch.issued + d, deadline := (s.node n).exch.deadline.map (· + d) } }) ∧
        u.order.controlLoss = s.order.controlLoss.map (· + d) ∧ u.monitor.runs = s.monitor.runs ∧
        u.monitor.events = s.monitor.events.map (fun e => { e with stamp := e.stamp + d }) ∧
        u.recorder = { s.recorder with
          ring := s.recorder.ring.map movedSnap
          edge := s.recorder.edge.map (· + d), debounce := s.recorder.debounce.map (· + d)
          incidents := s.recorder.incidents.map fun x => { x with
            openStamp := x.openStamp + d, closeStamp := x.closeStamp.map (· + d)
            causes := x.causes.map (fun c => { c with stamp := c.stamp + d })
            mark := x.mark.map (fun m => { m with stamp := m.stamp + d })
            lineStamp := x.lineStamp.map (· + d), snaps := x.snaps.map movedSnap } } ∧
        u.tables = s.tables ∧
        u.agent = { s.agent with queue := s.agent.queue.map fun q => { q with stamp := q.stamp + d } })

/-- A time mark that reaches the capture replaces the held mark or is discarded (R32, R33, Table 2-3). -/
def Obligations.MarkCaptureFollowsThePolicy : Prop :=
  ∀ (set : TimeSet) (m : MarkCapture) (stamp : Count) (payload : List Byte),
    let count := if m.discards < 255 then m.discards + 1 else 255
    let replaces := m.state ≠ .fresh ∨ set.policy = .overwrite ∨
      (set.policy = .holdWithExpiry ∧ (set.hold * 1000 : Int) < elapsed m.stamp stamp)
    (payload.length ≠ 8 → m.take set stamp payload = { m with discards := count }) ∧
    (payload.length = 8 → replaces → m.take set stamp payload =
      { state := .fresh, number := BitVec.ofNat 16 (ofBytes (payload.take 2))
        master := BitVec.ofNat 48 (ofBytes (payload.drop 2)), stamp := stamp
        discards := if m.state = .fresh then count else m.discards }) ∧
    (payload.length = 8 → ¬ replaces → m.take set stamp payload = { m with discards := count })

/-! ## Link ports and forwarder -/

/-- RECEPTION_START (R8) gives the receiver the present count as the frame's stamp, and nothing else changes. A frame that fails a
reception check is counted in the counter of the first check it fails, and nothing else happens (R4, R9, Table 1-15; check 2 by the
bytes received: model choice, note 12). -/
def Obligations.FramesAreStampedAndChecked : Prop :=
  (∀ (p : Port) (s : State),
    exec (.receptionStart p) s = .next (s.onPort p fun x => { x with rx := some s.time.count })) ∧
  (∀ (p : Port) (f : Frame) (s : State) (stamp : Count), (s.port p).rx = some stamp →
    let n := f.length
    let checked := (crc (f.take (n - 2))).toNat = ofBytes (f.drop (n - 2))
    let badForm := exec (.frameArrival p f) s = .next (s.onPort p fun x => { x with rx := none, badForm := x.badForm + 1 })
    (n < 7 ∨ 67 < n → badForm) ∧
    (7 ≤ n ∧ n ≤ 67 ∧ ¬ checked →
      exec (.frameArrival p f) s = .next (s.onPort p fun x => { x with rx := none, badCheck := x.badCheck + 1 })) ∧
    (7 ≤ n ∧ n ≤ 67 ∧ checked ∧
      ((f.getD 4 0).toNat ≠ n - 7 ∨ f.getD 0 0 = 0 ∨ f.getD 1 0 = 0 ∨ f.getD 1 0 = s.link.own) → badForm))

/-- Each frame received increments exactly one of the three reception counters of its port, whatever its handling brings about, and
none of the other port's (R9). -/
def Obligations.EveryArrivalIsCountedOnce : Prop :=
  ∀ (p : Port) (f : Frame) (s : State) (stamp : Count), (s.port p).rx = some stamp →
    Carried (.frameArrival p f) s fun t =>
      let a := s.port p
      let b := t.port p
      ((b.good = a.good + 1 ∧ b.badCheck = a.badCheck ∧ b.badForm = a.badForm) ∨
        (b.good = a.good ∧ b.badCheck = a.badCheck + 1 ∧ b.badForm = a.badForm) ∨
        (b.good = a.good ∧ b.badCheck = a.badCheck ∧ b.badForm = a.badForm + 1)) ∧
      (t.port (otherPort p)).good = (s.port (otherPort p)).good ∧
      (t.port (otherPort p)).badCheck = (s.port (otherPort p)).badCheck ∧
      (t.port (otherPort p)).badForm = (s.port (otherPort p)).badForm

/-- FRAME_ARRIVAL of a frame that passes reception and is not a request to the own address (R11, R13 to R17, Tables 1-17, 1-18): the
lowest valid entry for its source, kind and port decides, except in PASS; outside RUN an entry of a demand or report role forwards
and hands on nothing. To the own address it is handed on, dropped, or counted unclaimed; to another it is forwarded, handed on, both
or neither, a broadcast that is consumed going on too. Forwarding places it, byte for byte, in the other port's forward queue or on
its IDLE line, or counts it and raises LINK_OVERFLOW. Handed on, a demand frame goes to the demand intake, a sample frame to the speed
unit, a report to the order unit and a time mark to the mark capture, each with its arrival stamp. That a frame both forwarded and
handed on is forwarded first is a model choice (note 10). -/
def Obligations.FramesAreForwardedAndHandedOn : Prop :=
  ∀ (p : Port) (f : Frame) (s : State) (stamp : Count),
    (s.port p).rx = some stamp → receptionFault s.link.own f = none → ¬ (f.getD 0 0 = s.link.own ∧ f.getD 2 0 = 0x51) →
    let q := otherPort p
    let taken := s.onPort p fun x => { x with rx := none, good := x.good + 1 }
    let unclaimed : State := { taken with link := { taken.link with unclaimed := taken.link.unclaimed + 1 } }
    let found := s.tables.classify.toList.find? fun e => decide (e.valid = true ∧ e.source = f.getD 1 0 ∧ e.kind = f.getD 2 0 ∧
      (e.port = .either ∨ (e.port = .a ∧ p = .a) ∨ (e.port = .b ∧ p = .b)))
    let idles (e : ClassEntry) : Prop := s.agent.part ≠ .run ∧
      (match e.role with | .demand _ | .report _ => True | .noRole | .axleSample _ _ | .timeMark => False)
    (f.getD 0 0 = s.link.own →
      (s.agent.part = .pass ∨ found = none → exec (.frameArrival p f) s = .next unclaimed) ∧
      ∀ e, s.agent.part ≠ .pass → found = some e →
        (idles e ∨ (e.action ≠ .drop ∧ e.role = .noRole) → exec (.frameArrival p f) s = .next unclaimed) ∧
        (¬ idles e → e.action = .drop → exec (.frameArrival p f) s = .next taken) ∧
        (¬ idles e → e.action ≠ .drop → e.role ≠ .noRole →
          exec (.frameArrival p f) s = .next (handToRole e.role stamp f taken))) ∧
    (f.getD 0 0 ≠ s.link.own →
      (s.agent.part = .pass ∨ found = none → exec (.frameArrival p f) s = .next (taken.forwardFrom p f)) ∧
      ∀ e, s.agent.part ≠ .pass → found = some e →
        (idles e ∨ e.action = .forward → exec (.frameArrival p f) s = .next (taken.forwardFrom p f)) ∧
        (¬ idles e → e.action = .drop → exec (.frameArrival p f) s = .next taken) ∧
        (¬ idles e → e.action = .observe ∨ (e.action = .consume ∧ f.getD 0 0 = 0xFF) →
          exec (.frameArrival p f) s = .next (handToRole e.role stamp f (taken.forwardFrom p f))) ∧
        (¬ idles e → e.action = .consume → f.getD 0 0 ≠ 0xFF →
          exec (.frameArrival p f) s = .next (handToRole e.role stamp f taken))) ∧
    (∀ u : State,
      ((u.port q).forward.length < 16 → (u.port q).line ≠ .idle →
        u.forwardFrom p f = u.onPort q fun x => { x with forward := x.forward ++ [f] }) ∧
      ((u.port q).forward = [] → (u.port q).originated = [] → (u.port q).line = .idle →
        u.forwardFrom p f = u.onPort q fun x => { x with line := .sending f, run := 0 }) ∧
      (16 ≤ (u.port q).forward.length →
        u.forwardFrom p f = (u.onPort q fun x => { x with overflow := x.overflow + 1 }).raise (.linkOverflow q)) ∧
      handToRole .noRole stamp f u = u ∧ (∀ d, handToRole (.demand d) stamp f u = takeDemand d stamp f u) ∧
      (∀ first last, handToRole (.axleSample first last) stamp f u = takeSample first last stamp f u) ∧
      (∀ n, handToRole (.report n) stamp f u = takeReport n stamp f u) ∧
      handToRole .timeMark stamp f u =
        { u with time := { u.time with mark := u.time.mark.take u.tables.time stamp ((f.drop 5).take (f.length - 7)) } })

/-- A MGMT_REQ to the own address joins the request queue in every part state, is answered BUSY when four requests wait, and is
counted bad form when it carries no kind and id (R12, R166). -/
def Obligations.OwnRequestJoinsTheQueue : Prop :=
  ∀ (p : Port) (f : Frame) (s : State) (stamp : Count),
    (s.port p).rx = some stamp → receptionFault s.link.own f = none → f.getD 0 0 = s.link.own → f.getD 2 0 = 0x51 →
    let payload := (f.drop 5).take (f.length - 7)
    let r : Request := { port := p, stamp := stamp, source := f.getD 1 0, kind := payload.getD 0 0, id := payload.getD 1 0
                         args := payload.drop 2 }
    let good := s.onPort p fun x => { x with rx := none, good := x.good + 1 }
    (payload.length < 2 → exec (.frameArrival p f) s =
      .next (s.onPort p fun x => { x with rx := none, badForm := x.badForm + 1 })) ∧
    (2 ≤ payload.length → s.agent.queue.length < 4 → exec (.frameArrival p f) s =
      .next { good with agent := { s.agent with queue := s.agent.queue ++ [r] } }) ∧
    (2 ≤ payload.length → 4 ≤ s.agent.queue.length → exec (.frameArrival p f) s = .next (good.respond r .busy []))

/-- TRANSMISSION_COMPLETE (R19, R20): the transmission is counted and the arbiter takes the next frame, if any. While no further
frame is placed, a waiting forward frame is on the line after at most five completions: at most four originated frames go before
it. -/
def Obligations.TransmissionCompleteTakesTheNextFrame : Prop :=
  (∀ (p : Port) (s : State) (f : Frame), (s.port p).line = .sending f →
    exec (.transmissionComplete p) s = .next (s.onPort p fun x =>
      let y := { x with transmitted := x.transmitted + 1 }
      match x.forward, x.originated with
      | [], [] => { y with line := .idle }
      | g :: gs, [] => { y with forward := gs, line := .sending g, run := 0 }
      | [], o :: os => { y with originated := os, line := .sending o.bytes, run := 0 }
      | g :: gs, o :: os =>
        if x.run = 4 then { y with forward := gs, line := .sending g, run := 0 }
        else { y with originated := os, line := .sending o.bytes, run := x.run + 1 })) ∧
  (∀ (p : Port) (s : State) (f g : Frame) (fs : List Frame),
    (s.port p).line = .sending g → (s.port p).forward = f :: fs → (s.port p).run ≤ 4 →
    ∃ (k : Nat) (t : State), 1 ≤ k ∧ k + (s.port p).run ≤ 5 ∧
      Sys2Proof.core.run k (s.withPending (List.replicate k (.transmissionComplete p))) = .next t ∧
      (t.port p).line = .sending f ∧ (t.port p).forward = fs)

/-- A served request's response is placed, with the transmit sequence, at the tail of its port's originated queue (or goes onto an
IDLE line at once), or is dropped and counted when that queue is full; the request leaves the queue (R7, R18, R19, R166). Its payload
is the request's kind and id, the status code of Table 1-13, and the data. -/
def Obligations.ResponseIsQueuedOrDropped : Prop :=
  ∀ (s : State) (r : Request) (st : Status) (data : List Byte),
    let status : Byte := match st with
      | .ok => 0 | .busy => 1 | .badRequest => 2 | .badIndex => 3 | .badValue => 4 | .locked => 5 | .badConfig => 6 | .notClosed => 7
    let f := buildFrame r.source s.link.own 0x52 s.link.txSeq (r.kind :: r.id :: status :: data)
    let served : AgentBlock := { s.agent with queue := s.agent.queue.drop 1 }
    ((s.port r.port).originated.length < 12 → (s.port r.port).line ≠ .idle →
      s.replied r st data =
        { s with
          link := { (s.onPort r.port fun x => { x with originated := x.originated ++ [⟨.response, f⟩] }).link with
            txSeq := s.link.txSeq + 1 }
          agent := served }) ∧
    ((s.port r.port).originated = [] → (s.port r.port).forward = [] → (s.port r.port).line = .idle →
      s.replied r st data =
        { s with
          link := { (s.onPort r.port fun x => { x with line := .sending f, run := 0 }).link with txSeq := s.link.txSeq + 1 }
          agent := served }) ∧
    (12 ≤ (s.port r.port).originated.length →
      s.replied r st data =
        { s with
          link := { s.link with responsesDropped := s.link.responsesDropped + 1 }
          agent := served })

/-- A frame the part builds passes another part's reception checks and gives back what it was built from (R3, R4, R7, R9). -/
def Obligations.BuiltFramesAreReadBack : Prop :=
  ∀ (dest src kind seq own : Byte) (payload : List Byte),
    payload.length ≤ 60 → dest ≠ 0 → src ≠ 0 → src ≠ own →
    let f := buildFrame dest src kind seq payload
    receptionFault own f = none ∧ f.length = payload.length + 7 ∧ frameDest f = dest ∧ frameSource f = src ∧
      frameKind f = kind ∧ frameSeq f = seq ∧ frameLength f = payload.length ∧ framePayload f = payload

/-! ## Parameter tables -/

/-- What WRITE_ENTRY accepts, READ_ENTRY returns byte for byte, for every entry of every table; and every other entry stands as
before (R169, Table 11-3). -/
def Obligations.WrittenEntriesAreReadBack : Prop :=
  ∀ (own : Byte) (t u : Tables) (e : TableRef) (data : List Byte),
    data.length = entryLength e → t.written own e data = some u →
    u.entryBytes e = data ∧ ∀ e', e' ≠ e → u.entryBytes e' = t.entryBytes e'

/-- READ_ENTRY and WRITE_ENTRY (R169, R10, R122, R140): which table id and index name which entry, the checks in order, the range of
each field and the combinations its owning chapter refuses (the own address as notice address too), and the accepted write: its
values stand in the tables in the order they are carried, READ_ENTRY returns them, every other entry stands, and an AXLE write
returns the axle's speed part to rest (R37), a MONITOR write the entry's run state. An AXLE write to a VALID axle returns its slide
part to rest too (R109), and when no other axle is VALID a VALID reference is HELD and REF_HELD raised (R50). -/
def Obligations.EntryServices : Prop :=
  ∀ (s : State) (r : Request) (rest : List Request),
    (s.asks r rest 0x03 →
      (r.args.length ≠ 2 → exec .readEntry s = .next (s.replied r .badRequest [])) ∧
      (∀ a b : Byte, r.args = [a, b] → (∀ e : TableRef, e.name ≠ (a.toNat, b.toNat)) →
        exec .readEntry s = .next (s.replied r .badIndex [])) ∧
      (∀ (a b : Byte) (e : TableRef), r.args = [a, b] → e.name = (a.toNat, b.toNat) →
        exec .readEntry s = .next (s.replied r .ok (s.tables.entryBytes e)))) ∧
    (s.asks r rest 0x04 →
      (r.args.length < 2 → exec .writeEntry s = .next (s.replied r .badRequest [])) ∧
      (∀ (a b : Byte) (data : List Byte), r.args = a :: b :: data → (∀ e : TableRef, e.name ≠ (a.toNat, b.toNat)) →
        exec .writeEntry s = .next (s.replied r .badIndex [])) ∧
      (∀ (a b : Byte) (data : List Byte) (e : TableRef), r.args = a :: b :: data → e.name = (a.toNat, b.toNat) →
        let v (k : Nat) : Nat := (readFields e.ranges data).getD k 0
        let inRange := ∀ k (x : Field), e.ranges[k]? = some x → x.lo ≤ v k ∧ v k ≤ x.hi
        (s.agent.part = .run → exec .writeEntry s = .next (s.replied r .locked [])) ∧
        (s.agent.part ≠ .run → data.length ≠ e.size → exec .writeEntry s = .next (s.replied r .badRequest [])) ∧
        (s.agent.part ≠ .run → data.length = e.size → ¬ (inRange ∧ e.suits s.link.own v) →
          exec .writeEntry s = .next (s.replied r .badValue [])) ∧
        (s.agent.part ≠ .run → data.length = e.size → inRange → e.suits s.link.own v →
          ∃ t : Tables, t.holds e v ∧ t.entryBytes e = data ∧ (∀ e', e' ≠ e → t.entryBytes e' = s.tables.entryBytes e') ∧
            let u := { s with tables := t }
            exec .writeEntry s = .next (
              match e with
              | .axle i => (u.resetAxle i).replied r .ok []
              | .monitor m => (u.setRun m { active := false, count := 0, side := .unknown }).replied r .ok []
              | _ => u.replied r .ok []) ∧
            ∀ i : AxleSlot, e = .axle i →
              (u.resetAxle i).speed.axles[i] = { enabled := decide (v 0 = 1), pulse := v 1, speed := 0, stamp := 0, prevStamp := 0
                                                 decel := 0, trend := .flat, lastTrend := none, validity := .unknown
                                                 ageTimer := none } ∧
              (s.speed.axles[i].validity ≠ .valid → u.resetAxle i = u.onAxleSpeed i fun _ => (u.resetAxle i).speed.axles[i]) ∧
              (let gone := (u.onAxleSpeed i fun _ => (u.resetAxle i).speed.axles[i]).onAxleSlide i fun x =>
                { x with state := .normal, onset := 0, limit := none, ceiling := none, holdTimer := none, cycles := 0 }
               s.speed.axles[i].validity = .valid →
                ((∃ j, j ≠ i ∧ s.speed.axles[j].validity = .valid) ∨ s.speed.ref.state ≠ .valid → u.resetAxle i = gone) ∧
                ((∀ j, j ≠ i → s.speed.axles[j].validity ≠ .valid) → s.speed.ref.state = .valid → u.resetAxle i =
                  (gone.setRef { s.speed.ref with
                    state := .held, holdTimer := some (s.now + BitVec.ofNat 48 (t.speed.holdTime * 1000)) }).raise .refHeld)))))

/-- No configuration table entry changes while the part is in RUN (R169); a power-on reset ends the stay and is the exception. -/
def Obligations.TablesStandInRun : Prop :=
  ∀ (c : Instr) (s t : State), s.agent.part = .run → (∀ x y, c ≠ .powerOnReset x y) → exec c s = .next t → t.tables = s.tables

/-! ## Speed unit -/

/-- A frame update of the reference with a candidate (R47, R48, R49). From INVALID it takes the candidate, with estimate 0. From VALID
or HELD the value goes to the candidate, held back to the old value minus the fall allowance or plus the rise allowance of the time
since the last update, so that it moves by no more than these; the estimate moves by an eighth of its distance to the raw
deceleration, and is kept when the time is below 1000 µs. The record is VALID after it, its hold timer stopped if it was HELD. -/
def Obligations.ReferenceMovesWithinItsAllowances : Prop :=
  ∀ (set : SpeedSet) (r : RefRecord) (c : Nat) (stamp : Count),
    let n := r.update set c stamp
    (r.state = .invalid → n = { r with value := c, state := .valid, estimate := 0, lastUpdate := stamp }) ∧
    (r.state ≠ .invalid → r.value ≤ 20000 → c ≤ 20000 →
      let us := (elapsed r.lastUpdate stamp).toNat
      let fall := set.decelLimit * us / 1000000
      let rise := set.accelLimit * us / 1000000
      let raw := (((r.value : Int) - n.value) * 1000000).tdiv us
      n.value = (if c + fall < r.value then r.value - fall else if r.value + rise < c then r.value + rise else c) ∧
      n.value ≤ 20000 ∧ r.value ≤ n.value + fall ∧ n.value ≤ r.value + rise ∧
      (r.value ≤ c + fall → c ≤ r.value + rise → n.value = c) ∧ n.state = .valid ∧
      n.holdTimer = (if r.state = .held then none else r.holdTimer) ∧
      n.estimate = (if us < 1000 then r.estimate
        else max (-5000) (min 5000 (r.estimate + (raw - r.estimate).tdiv 8))) ∧
      (elapsed r.lastUpdate stamp < 0 → n.lastUpdate = r.lastUpdate) ∧
      (0 ≤ elapsed r.lastUpdate stamp → n.lastUpdate = stamp))

/-- AXLE_AGE_EXPIRY and REFERENCE_HOLD_EXPIRY (R25, R44, R46, R50, R109): a VALID axle whose timer is due becomes STALE and its slide
part returns to rest, and the last VALID axle's loss takes a VALID reference to HELD; a hold timer that is due takes the reference to
INVALID. The last VALID axle's loss and the hold timer's expiry are reference updates, to which the readers then react: the latch's
judgement and the monitor's pass. That REF_HELD and REF_INVALID are raised before the readers react is a model choice (note 8). A
timer that is stopped or not due has no expiry (model choice, note 2). -/
def Obligations.SpeedTimersExpire : Prop :=
  (∀ (i : AxleSlot) (s : State), ¬ Timer.due s.speed.axles[i].ageTimer s.now → exec (.axleAgeExpiry i) s = .next s) ∧
  (∀ (i : AxleSlot) (s : State), Timer.due s.speed.axles[i].ageTimer s.now → s.speed.axles[i].validity = .valid →
    Carried (.axleAgeExpiry i) s fun t =>
      t.speed.axles[i] = { s.speed.axles[i] with validity := .stale, ageTimer := none } ∧
      (∀ j : AxleSlot, j ≠ i → t.speed.axles[j] = s.speed.axles[j]) ∧
      t.slide.axles[i].state = .normal ∧ t.slide.axles[i].limit = none ∧ t.slide.axles[i].ceiling = none ∧
      (if s.speed.ref.state = .valid ∧ ∀ j : AxleSlot, j ≠ i → s.speed.axles[j].validity ≠ .valid then
        t.speed.ref = { s.speed.ref with
          state := .held, holdTimer := some (s.now + BitVec.ofNat 48 (s.tables.speed.holdTime * 1000)) } ∧
        t.isPending .refHeld
      else t.speed.ref = s.speed.ref) ∧
      t.tables = s.tables ∧ t.time = s.time) ∧
  (∀ (i : AxleSlot) (s : State), Timer.due s.speed.axles[i].ageTimer s.now → s.speed.axles[i].validity = .valid →
    let gone := (s.onAxleSpeed i fun x => { x with validity := .stale, ageTimer := none }).onAxleSlide i fun x =>
      { x with state := .normal, onset := 0, limit := none, ceiling := none, holdTimer := none, cycles := 0 }
    let held := (gone.setRef { s.speed.ref with
      state := .held, holdTimer := some (s.now + BitVec.ofNat 48 (s.tables.speed.holdTime * 1000)) }).raise .refHeld
    ((∃ j, j ≠ i ∧ s.speed.axles[j].validity = .valid) → exec (.axleAgeExpiry i) s = .next gone) ∧
    ((∀ j, j ≠ i → s.speed.axles[j].validity ≠ .valid) →
      exec (.axleAgeExpiry i) s = .next (if s.speed.ref.state = .valid then held else gone).referenceReaders)) ∧
  (∀ s : State, ¬ Timer.due s.speed.ref.holdTimer s.now → exec .referenceHoldExpiry s = .next s) ∧
  (∀ s : State, Timer.due s.speed.ref.holdTimer s.now → exec .referenceHoldExpiry s = .next (State.referenceReaders
    ((s.setRef { s.speed.ref with value := 0, state := .invalid, estimate := 0, holdTimer := none }).raise .refInvalid))) ∧
  (∀ s : State, Timer.due s.speed.ref.holdTimer s.now → Carried .referenceHoldExpiry s fun t =>
    t.speed.ref = { s.speed.ref with value := 0, state := .invalid, estimate := 0, holdTimer := none } ∧
    t.isPending .refInvalid ∧ t.speed.axles = s.speed.axles ∧ t.tables = s.tables ∧ t.time = s.time)

/-- Sample frames and INJECT_SAMPLE (R38 to R45, R47, R50, R52, Table 3-3). INJECT_SAMPLE is refused outside CONFIG, whatever its
length (model choice, note 21), and for a length that holds no 1 to 3 entries; otherwise its list is taken as a sample frame is,
with the present count as its stamp and every slot permitted; a sample frame of another length is refused. Phase 1 judges the
entries in payload order: an entry is refused and counted, or is a fault entry (the axle FAULTED, its slide part at rest if it was
VALID, SENSOR_FAULT raised), or a good one (speed, deceleration, trend and recovery turn formed, the axle VALID, its age timer
started). Phase 2 is the frame update: with a VALID axle the highest VALID speed is the candidate, without one a VALID reference
is HELD and REF_HELD raised; then its readers react, none of them outside RUN. That REF_HELD is raised before the readers react is
a model choice (note 8). Phase 3 hands on each good entry in payload order. -/
def Obligations.SamplesAreTaken : Prop :=
  (∀ (s : State) (r : Request) (rest : List Request), s.asks r rest 0x30 →
    (s.agent.part ≠ .config → exec .injectSample s = .next (s.replied r .locked [])) ∧
    (s.agent.part = .config → r.args.length ∉ [5, 10, 15] → exec .injectSample s = .next (s.replied r .badRequest [])) ∧
    (s.agent.part = .config → r.args.length ∈ [5, 10, 15] →
      let u := takeList 0 5 s.now r.args s
      exec .injectSample s = .next (u.1.replied r .ok
        (u.2.map (fun o => (match o with | .refused => 0 | .fault => 1 | .good _ => 2 : Byte)) ++ toBytes 2 u.1.speed.ref.value ++
          [(match u.1.speed.ref.state with | .invalid => 0 | .valid => 1 | .held => 2 : Byte)] ++ toSigned2 u.1.speed.ref.estimate))) ∧
    (∀ (i : AxleSlot) (n hi lo : Byte), s.agent.part = .config → r.args = [BitVec.ofNat 8 i.val, 0, n, hi, lo] →
      s.speed.axles[i].enabled = true → s.speed.axles[i].validity ≠ .valid → n ≠ 0 → ofBytes [hi, lo] ≠ 0 →
      Carried .injectSample s fun t =>
        t.speed.axles[i].speed = min (n.toNat * s.speed.axles[i].pulse * 360 / ofBytes [hi, lo]) 20000 ∧
        t.speed.axles[i].validity = .valid ∧ t.speed.axles[i].stamp = s.now ∧
        t.speed.axles[i].ageTimer = some (s.now + BitVec.ofNat 48 (s.tables.speed.ageLimit * 1000)) ∧
        (∀ j : AxleSlot, j ≠ i → t.speed.axles[j] = s.speed.axles[j]) ∧
        t.time = s.time ∧ t.demand = s.demand ∧ t.blend = s.blend ∧ t.order = s.order ∧ t.monitor = s.monitor ∧
        t.recorder = s.recorder ∧ t.tables = s.tables)) ∧
  (∀ (first last : AxleSlot) (stamp : Count) (s : State),
    (∀ f : Frame,
      let payload := (f.drop 5).take (f.length - 7)
      (payload.length ∉ [5, 10, 15] → takeSample first last stamp f s =
        { s with link := { s.link with sampleRefused := s.link.sampleRefused + 1 } }) ∧
      (payload.length ∈ [5, 10, 15] → takeSample first last stamp f s = (takeList first last stamp payload s).1)) ∧
    (∀ payload : List Byte,
      let u := takeEntries first last stamp [] (rawEntries payload) s
      let goods := u.2.filterMap fun o => match o with | .good g => some g | .refused => none | .fault => none
      takeList first last stamp payload s = (goods.foldl State.handOn (u.1.frameUpdate stamp), u.2)) ∧
    rawEntries [] = [] ∧
    (∀ (slot status n hi lo : Byte) (more : List Byte), rawEntries (slot :: status :: n :: hi :: lo :: more) =
      { slot := slot.toNat, status := status.toNat, pulses := n.toNat, interval := hi.toNat * 256 + lo.toNat } :: rawEntries more) ∧
    (∀ seen : List Nat, takeEntries first last stamp seen [] s = (s, [])) ∧
    (∀ (seen : List Nat) (e : RawEntry) (more : List RawEntry),
      let u := takeEntry first last stamp seen e s
      let v := takeEntries first last stamp (e.slot :: seen) more u.1
      takeEntries first last stamp seen (e :: more) s = (v.1, u.2 :: v.2)) ∧
    (∀ (seen : List Nat) (e : RawEntry),
      let refused := takeEntry first last stamp seen e s =
        ({ s with link := { s.link with sampleRefused := s.link.sampleRefused + 1 } }, .refused)
      (e.slot < first.val ∨ last.val < e.slot ∨ e.slot ∈ seen → refused) ∧
      (∀ i : AxleSlot, e.slot = i.val → first ≤ i → i ≤ last → e.slot ∉ seen →
        let a := s.speed.axles[i]
        let gap := elapsed a.stamp stamp
        let bad := a.enabled = false ∨ 1 < e.status ∨ (e.status = 0 ∧ 0 < e.pulses ∧ e.interval = 0) ∨
          (gap < 0 ∧ a.validity = .valid)
        (bad → refused) ∧
        (¬ bad → e.status = 1 →
          let u := s.onAxleSpeed i fun x => { x with validity := .faulted, ageTimer := none }
          takeEntry first last stamp seen e s =
            (State.raise (.sensorFault i)
              (if a.validity = .valid then
                u.onAxleSlide i fun x =>
                  { x with state := .normal, onset := 0, limit := none, ceiling := none, holdTimer := none, cycles := 0 }
              else u), .fault)) ∧
        (¬ bad → e.status = 0 →
          let speed := if e.pulses = 0 then 0 else min (e.pulses * a.pulse * 360 / e.interval) 20000
          let basis := decide (a.validity ≠ .unknown ∧ 0 < gap ∧ gap ≤ (s.tables.speed.ageLimit * 1000 : Nat))
          let decel : Int :=
            if basis then max (-30000) (min 30000 ((((a.speed : Int) - speed) * 1000000).tdiv gap)) else 0
          let trend : Trend := if basis = false then .flat else if (s.tables.speed.trendBand : Int) < decel then .decel
            else if decel < -(s.tables.speed.trendBand : Int) then .accel else .flat
          takeEntry first last stamp seen e s =
            (s.onAxleSpeed i fun x =>
              { x with
                speed := speed, stamp := stamp, prevStamp := x.stamp, decel := decel, trend := trend
                lastTrend := if basis then (if trend = .flat then x.lastTrend else some trend) else none
                validity := .valid, ageTimer := some (s.now + BitVec.ofNat 48 (s.tables.speed.ageLimit * 1000)) },
              .good { axle := i, speed := speed, decel := decel, trend := trend
                      turn := decide (basis = true ∧ trend = .accel ∧ a.lastTrend = some .decel), gap := gap })))) ∧
    (let speeds := (axleSlots.filter fun i => s.speed.axles[i].validity = .valid).map fun i => s.speed.axles[i].speed
     (∀ x ∈ speeds, (∀ y ∈ speeds, y ≤ x) →
        s.frameUpdate stamp = (s.setRef (s.speed.ref.update s.tables.speed x stamp)).referenceReaders) ∧
     (speeds = [] → s.speed.ref.state = .valid → s.frameUpdate stamp = State.referenceReaders
        ((s.setRef { s.speed.ref with
          state := .held, holdTimer := some (s.now + BitVec.ofNat 48 (s.tables.speed.holdTime * 1000)) }).raise .refHeld)) ∧
     (speeds = [] → s.speed.ref.state ≠ .valid → s.frameUpdate stamp = s.referenceReaders)) ∧
    (s.agent.part ≠ .run → s.referenceReaders = s))

/-- READ_STATUS of sections SPEED and NODES (R53, R138, R167, R170): the data, field by field, and nothing changes. That arguments beyond
those of the rule are answered BAD_REQUEST is a model choice (note 21). -/
def Obligations.SpeedAndNodeStatus : Prop :=
  ∀ (s : State) (r : Request) (rest : List Request), s.asks r rest 0x05 →
    (∀ tail, r.args = 3 :: tail → exec .readStatusSpeed s = .next (
      if tail = [] then
        s.replied r .ok
          ((axleSlots.flatMap fun i =>
            [match s.speed.axles[i].validity with | .unknown => 0 | .valid => 1 | .stale => 2 | .faulted => 3] ++
              toBytes 2 s.speed.axles[i].speed ++ toSigned2 s.speed.axles[i].decel ++
              [match s.speed.axles[i].trend with | .flat => 0 | .decel => 1 | .accel => 2]) ++
            toBytes 2 s.speed.ref.value ++
            [match s.speed.ref.state with | .invalid => 0 | .valid => 1 | .held => 2] ++ toSigned2 s.speed.ref.estimate)
      else s.replied r .badRequest [])) ∧
    (∀ tail, r.args = 1 :: tail → tail.length ≠ 1 → exec .readStatusNodes s = .next (s.replied r .badRequest [])) ∧
    (∀ b : Byte, r.args = [1, b] → 8 ≤ b.toNat → exec .readStatusNodes s = .next (s.replied r .badIndex [])) ∧
    (∀ n : NodeSlot, r.args = [1, BitVec.ofNat 8 n.val] →
      let x := s.node n
      let data : List Byte :=
        [if s.tables.node[n].present then 1 else 0,
          match x.sup.state with | .absent => 0 | .joining => 1 | .active => 2 | .degraded => 3 | .lost => 4 | .cutOut => 5,
          if x.exch.awaiting then 1 else 0, x.exch.tag, match x.exch.control with | .releaseControl => 0 | .holdControl => 1] ++
        toBytes 2 x.exch.value ++ [BitVec.ofNat 8 x.sup.goodRun, BitVec.ofNat 8 x.sup.missRun] ++
        (match x.achieved with | none => [0, 0, 0] | some v => 1 :: toBytes 2 v) ++
        (match x.cap with | none => [0, 0, 0] | some v => 1 :: toBytes 2 v) ++ toBytes 4 x.exch.replyTime ++
        [x.counts.issued, x.counts.good, x.counts.bad, x.counts.missed, x.counts.abandoned, x.counts.stray, x.counts.late,
          x.counts.notSent, x.counts.releasesNotSent].flatMap (fun c => toBytes 4 c.toNat) ++
        [if s.order.controlLoss = none then 0 else 1,
          BitVec.ofNat 8 (nodeSlots.countP fun m => decide (s.tables.node[m].present = true ∧
            ((s.node m).sup.state = .active ∨ (s.node m).sup.state = .degraded)))]
      exec .readStatusNodes s = .next (s.replied r .ok data) ∧ data.length = 57)

/-! ## Demand intake -/

/-- A demand frame handed to the intake, and one to the own address under a DEMAND entry in RUN (R13, R16, R55 to R57): refused and
counted for its length or mode, dropped as a duplicate, or accepted; an accepted one gives its source the clamped payload, the frame's
stamp and a fresh loss timer, and the effective demand is then recomputed. -/
def Obligations.DemandFrameUpdatesItsSource : Prop :=
  (∀ (p : Port) (f : Frame) (s : State) (stamp : Count) (e : ClassEntry) (d : SourceSlot),
    (s.port p).rx = some stamp → receptionFault s.link.own f = none → f.getD 0 0 = s.link.own → f.getD 2 0 ≠ 0x51 →
    s.agent.part = .run → s.matchingEntry p f = some e → e.role = .demand d → e.action ≠ .drop →
    let payload := (f.drop 5).take (f.length - 7)
    let mode := (payload.getD 0 0).toNat
    let duplicate := s.demand.sources[d].state = .current ∧ s.demand.sources[d].seq = some (f.getD 3 0)
    let good := s.onPort p fun x => { x with rx := none, good := x.good + 1 }
    (payload.length ≠ 5 ∨ 4 < mode → exec (.frameArrival p f) s =
      .next { good with link := { good.link with demandRefused := good.link.demandRefused + 1 } }) ∧
    (payload.length = 5 → mode ≤ 4 → duplicate → exec (.frameArrival p f) s = .next good) ∧
    (payload.length = 5 → mode ≤ 4 → ¬ duplicate → Carried (.frameArrival p f) s fun t =>
      t.demand.sources[d].state = .current ∧ t.demand.sources[d].seq = some (f.getD 3 0) ∧
      t.demand.sources[d].stamp = stamp ∧
      (∃ m,
        let last : DemandPayload :=
          { mode := m, level := min (ofBytes ((payload.drop 1).take 2)) 1000, floor := min (ofBytes ((payload.drop 3).take 2)) 500 }
        m.code.toNat = mode ∧ t.demand.sources[d].payload = some last ∧
        t = (good.onSource d fun _ =>
          { state := .current, seq := some (f.getD 3 0), payload := some last, stamp := stamp
            timer := some (s.now + BitVec.ofNat 48 (s.tables.blend.demandLoss * 1000)) }).recompute ∧
        (m = .emergency → t.demand.eff.mode = .emergency ∧ t.demand.eff.level = 1000)) ∧
      (t.agent.part = .run →
        t.demand.sources[d].timer = some (s.now + BitVec.ofNat 48 (s.tables.blend.demandLoss * 1000)) ∧
        ∀ k : SourceSlot, k ≠ d → t.demand.sources[k] = s.demand.sources[k]) ∧
      t.speed = s.speed ∧ t.time = s.time ∧ t.tables = s.tables)) ∧
  (∀ (d : SourceSlot) (stamp : Count) (f : Frame) (s : State),
    let payload := (f.drop 5).take (f.length - 7)
    let mode := (payload.getD 0 0).toNat
    let duplicate := s.demand.sources[d].state = .current ∧ s.demand.sources[d].seq = some (f.getD 3 0)
    (payload.length ≠ 5 ∨ 4 < mode →
      takeDemand d stamp f s = { s with link := { s.link with demandRefused := s.link.demandRefused + 1 } }) ∧
    (payload.length = 5 → mode ≤ 4 → duplicate → takeDemand d stamp f s = s) ∧
    (∀ m, payload.length = 5 → [Mode.release, .dynamicOnly, .blended, .airOnly, .emergency][mode]? = some m → ¬ duplicate →
      let last : DemandPayload :=
        { mode := m, level := min (ofBytes ((payload.drop 1).take 2)) 1000, floor := min (ofBytes ((payload.drop 3).take 2)) 500 }
      takeDemand d stamp f s = (s.onSource d fun _ =>
        { state := .current, seq := some (f.getD 3 0), payload := some last, stamp := stamp
          timer := some (s.now + BitVec.ofNat 48 (s.tables.blend.demandLoss * 1000)) }).recompute))

/-- DEMAND_LOSS_EXPIRY (R25, R58, R59, R60): the source is LOST and keeps its last payload, DEMAND_LOST is raised, the trigger
DEMAND_LOST is given and the effective demand is recomputed; a required source's loss holds the effective level at the penalty level
or above, unless an emergency is in force. That the event is raised before the trigger is given is a model choice (note 11). A timer
that is stopped or not due has no expiry (model choice, note 2). -/
def Obligations.DemandLossBringsThePenalty : Prop :=
  ∀ (d : SourceSlot) (s : State),
    (¬ Timer.due s.demand.sources[d].timer s.now → exec (.demandLossExpiry d) s = .next s) ∧
    (Timer.due s.demand.sources[d].timer s.now → Carried (.demandLossExpiry d) s fun t =>
      t = ((((s.onSource d fun x => { x with state := .lost, timer := none }).raise (.demandLost d)).trigger (.demandLost d)).recompute) ∧
      t.demand.sources[d] = { s.demand.sources[d] with state := .lost, timer := none } ∧
      t.isPending (.demandLost d) ∧
      (d = 0 ∨ s.tables.blend.protection = true → t.demand.eff.mode ≠ .emergency →
        s.tables.blend.penalty ≤ t.demand.eff.level) ∧
      (t.agent.part = s.agent.part → ∀ k : SourceSlot, k ≠ d → t.demand.sources[k] = s.demand.sources[k]) ∧
      t.speed = s.speed ∧ t.time = s.time ∧ t.tables = s.tables)

/-- The effective demand (R59 to R63, R46, R69, Tables 4-4 to 4-6). A CURRENT source in EMERGENCY, or a latch that may not clear, gives
EMERGENCY at level 1000 under the latch; otherwise the higher of the two contributions sets mode, level and origin, source 0 on equal
levels, RELEASE with none; the floor is source 0's (0 for a source LOST before its first frame: model choice, note 16). A recomputation
that enters EMERGENCY raises the event, gives the trigger and takes an extra epoch while the part is in RUN, in an order that is free
(model choice, note 7). In RUN a reference update clears the latch when it may clear, and its monitor pass, made when an enabled entry
watches the reference, comes before or after that (free: note 8). -/
def Obligations.EffectiveDemandIsFormed : Prop :=
  ∀ s : State,
    let emerg (d : SourceSlot) : Bool :=
      decide (s.demand.sources[d].state = .current ∧ s.demand.sources[d].payload.map DemandPayload.mode = some .emergency)
    let mayClear : Bool := !emerg 0 && !emerg 1 &&
      decide (s.speed.ref.state = .invalid ∨ (s.speed.ref.state = .valid ∧ s.speed.ref.value = 0))
    let floor := match s.demand.sources[0].state, s.demand.sources[0].payload with
      | .never, _ => 0 | .current, none => 0 | .lost, none => 0 | .current, some p => p.floor | .lost, some p => p.floor
    let part (d : SourceSlot) (name : DemandOrigin) (required : Bool) : Option (Mode × Nat × DemandOrigin) :=
      match s.demand.sources[d].state, s.demand.sources[d].payload with
      | .never, _ => none
      | .current, none => none
      | .current, some p => some (p.mode, if p.mode = .release then 0 else p.level, name)
      | .lost, _ => if required then some (.blended, s.tables.blend.penalty, .penalty) else none
    let source0 := part 0 .source0 true
    let source1 := part 1 .source1 s.tables.blend.protection
    let formed := { s with demand := { s.demand with eff := s.formDemand } }
    let watched := ∃ m : Fin 8, s.tables.monitor[m].enabled = true ∧
      (s.tables.monitor[m].source = .refSpeed ∨ s.tables.monitor[m].source = .decelEstimate)
    let pass (u : State) : State := u.monitorPass [(.refSpeed, (s.speed.ref.value : Int)), (.decelEstimate, s.speed.ref.estimate)]
    let taken := { s with draws := s.draws + 1 }
    (emerg 0 = true ∨ emerg 1 = true ∨ (s.demand.eff.latch = true ∧ mayClear = false) → s.formDemand =
      { mode := .emergency, level := 1000, floor := floor, latch := true
        origin := if emerg 0 then .source0 else if emerg 1 then .source1 else s.demand.eff.origin }) ∧
    (emerg 0 = false → emerg 1 = false → (s.demand.eff.latch = true → mayClear = true) →
      let won := match source0, source1 with
        | none, none => (Mode.release, 0, DemandOrigin.source0)
        | some a, none => a
        | none, some b => b
        | some a, some b => if a.2.1 < b.2.1 then b else a
      s.formDemand = { mode := won.1, level := won.2.1, floor := floor, origin := won.2.2, latch := false }) ∧
    (s.demand.eff.mode = .emergency ∨ s.formDemand.mode ≠ .emergency → s.recompute = formed) ∧
    (s.demand.eff.mode ≠ .emergency → s.formDemand.mode = .emergency → ∃ o : Order3, s.recompute =
      Order3.run o (State.raise .emergencyEntered) (State.trigger .emergencyEntry) State.extraEpoch { formed with draws := s.draws + 1 }) ∧
    s.extraEpoch = (if s.agent.part = .run then s.takeEpoch .extra else s) ∧
    s.judgeLatch = (if s.agent.part = .run ∧ s.demand.eff.latch = true ∧ mayClear = true then formed else s) ∧
    (s.agent.part = .run → ¬ watched → s.referenceReaders = s.judgeLatch) ∧
    (s.agent.part = .run → watched →
      s.referenceReaders = pass taken.judgeLatch ∨ s.referenceReaders = (pass taken).judgeLatch)

/-- The latch and the effective mode agree, and every level and floor lies in its range, after every step (R57, R60, R61). -/
def Obligations.DemandStaysSound : Prop := KeptByEveryStep State.DemandSound

/-! ## Blend engine -/

/-- EPOCH_TIMER_EXPIRY (R25, R68 to R71, R86, R87): a regular epoch is taken, and the timer's next expiry counts from the one just
reached. An epoch, regular or extra, raises the epoch number by one, forms the relief requests, computes the targets, notes the
unplaced air, ramps the outputs and publishes: number, time, kind, interval (for an extra epoch the whole ms since the last epoch, at
least 1), demand, reference, totals, targets and outputs; an extra one leaves the timer alone. Then the three reactions follow in an
order that is free (model choice, note 6). A timer that is stopped or not due has no expiry (model choice, note 2). -/
def Obligations.EpochPublishesItsTargets : Prop :=
  (∀ s : State, ¬ Timer.due s.blend.timer s.now → exec .epochTimerExpiry s = .next s) ∧
  (∀ (s : State) (e : Count), s.blend.timer = some e → 0 ≤ elapsed e s.now →
    exec .epochTimerExpiry s = .next (State.takeEpoch .regular
      { s with blend := { s.blend with timer := some (e + BitVec.ofNat 48 (s.tables.blend.period * 1000)) } })) ∧
  (∀ (s : State) (e : Count), s.blend.timer = some e → 0 ≤ elapsed e s.now → Carried .epochTimerExpiry s fun t =>
    let g := s.beginEpoch.targets
    t.blend.epoch = s.blend.epoch + 1 ∧ t.blend.pub.epoch = s.blend.epoch + 1 ∧ t.blend.pub.time = s.now ∧
    t.blend.pub.kind = .regular ∧ t.blend.pub.interval = s.tables.blend.period ∧
    t.blend.pub.demand = s.demand.eff ∧ t.blend.pub.fallback = s.blend.fallback ∧
    t.blend.pub.refValue = s.speed.ref.value ∧ t.blend.pub.refState = s.speed.ref.state ∧
    t.blend.pub.estimate = s.speed.ref.estimate ∧ t.blend.pub.totals = g.totals ∧
    (∀ i : AxleSlot, t.blend.pub.axles[i].target = g.axles[i]) ∧
    (∀ k : TruckSlot, t.blend.pub.trucks[k].target = g.trucks[k]) ∧
    (t.agent.part = .run → t.blend.timer = some (e + BitVec.ofNat 48 (s.tables.blend.period * 1000))) ∧
    t.demand.eff = s.demand.eff ∧ t.speed = s.speed ∧ t.time = s.time ∧ t.tables = s.tables) ∧
  (∀ (s : State) (k : EpochKind),
    let ms := match k with
      | .regular => s.tables.blend.period
      | .extra => max 1 ((elapsed s.blend.pub.time s.now).toNat / 1000)
    let g := s.beginEpoch.targets
    let w := (s.beginEpoch.noteUnplaced g.totals.unplaced).ramp g ms
    s.beginEpoch = State.formRelief { s with blend := { s.blend with epoch := s.blend.epoch + 1 } } ∧
    s.computeEpoch k = { w with blend := { w.blend with pub :=
      { epoch := s.blend.epoch + 1, time := s.now, kind := k, interval := ms, demand := s.demand.eff, fallback := s.blend.fallback
        refValue := s.speed.ref.value, refState := s.speed.ref.state, estimate := s.speed.ref.estimate, totals := g.totals
        trucks := vec2 fun i =>
          { target := g.trucks[i], output := w.blend.trucks[i].output, relief := s.beginEpoch.slide.trucks[i].request }
        axles := vec6 fun i => { target := g.axles[i], output := w.blend.axles[i].output } } } } ∧
    (s.computeEpoch k).blend.timer = s.blend.timer ∧
    ∃ o : Order3, s.takeEpoch k = Order3.run o State.orderAll State.takeSnapshot State.monitorPublication
      { s.computeEpoch k with draws := (s.computeEpoch k).draws + 1 })

/-- At every epoch the axle targets sum to the dynamic target, which does not exceed the demanded effort, and no axle's target
exceeds its availability (R83, R84). -/
def Obligations.AxleTargetsSumToTheDynamicTarget : Prop :=
  ∀ s : State,
    let g := s.targets
    sum6 (fun i => g.axles[i]) = g.totals.dynamic ∧ g.totals.dynamic ≤ g.totals.demanded ∧
      ∀ i : AxleSlot, g.axles[i] ≤ s.availability s.epochSpeed i

/-- The target computation of an epoch (R72 to R82, R85; the dynamic target by R83). The mode used, the demanded effort, the lead drop
and the availabilities, from the capability curve and the limits that are present, size the air target; the eligible trucks share it
within their caps, each taking over the other's excess; what no cap holds is unplaced, and raises AIR_UNPLACED after an epoch with
none. The shares, the floor and the relief requests give the pressure targets, the reported pressures the achieved air, and the
reported efforts the shortfall. For any target and caps the shares keep within the caps and place all that the caps of the eligible
trucks can hold. -/
def Obligations.AirTargetIsSharedAndAchieved : Prop :=
  (∀ (target c1 c2 : Nat) (e1 e2 : Bool),
    let x := split target e1 e2 c1 c2
    x.1 ≤ c1 ∧ x.2 ≤ c2 ∧ (e1 = false → x.1 = 0) ∧ (e2 = false → x.2 = 0) ∧
      x.1 + x.2 = min target ((if e1 then c1 else 0) + (if e2 then c2 else 0)) ∧
      (e1 = true → e2 = true → (target + 1) / 2 ≤ c1 → target / 2 ≤ c2 → x = ((target + 1) / 2, target / 2)) ∧
      (e1 = true → e2 = true →
        x = (min ((target + 1) / 2 + (target / 2 - c2)) c1, min (target / 2 + ((target + 1) / 2 - c1)) c2)) ∧
      (e1 = true → e2 = false → x = (min target c1, 0)) ∧ (e1 = false → e2 = true → x = (0, min target c2))) ∧
  (∀ (c : CurveTable) (limit v : Nat),
    let p (k : Nat) : CurvePoint := c.points.toList.getD k ⟨0, 0⟩
    2 ≤ c.count → c.count ≤ 16 → (p 0).speed = 0 → (∀ k, k + 1 < c.count → (p k).speed < (p (k + 1)).speed) →
    ((p (c.count - 1)).speed ≤ v → capability c limit v = min (p (c.count - 1)).effort limit) ∧
    (∀ k, k + 1 < c.count → (p k).speed ≤ v → v < (p (k + 1)).speed →
      capability c limit v = min ((p k).effort +
        (((p (k + 1)).effort - (p k).effort : Int) * (v - (p k).speed)).fdiv ((p (k + 1)).speed - (p k).speed)).toNat limit)) ∧
  (∀ (s : State) (v : Nat) (i : AxleSlot),
    let factor := if s.tables.node[inverterOf i].present then
        (match (s.node (inverterOf i)).sup.state with
          | .active => 256 | .degraded => s.tables.blend.degraded | .absent => 0 | .joining => 0 | .lost => 0 | .cutOut => 0)
      else 0
    let limits := [s.slide.axles[i].limit, s.slide.axles[i].ceiling, (s.node (inverterOf i)).cap].filterMap id
    s.availability v i = if s.speed.ref.state = .invalid then 0
      else limits.foldl min (capability s.tables.curve s.tables.blend.axleLimit v * factor / 256)) ∧
  (∀ s : State,
    let g := s.targets
    let b := s.tables.blend
    let speed := if s.speed.ref.state = .invalid then 0 else s.speed.ref.value
    let nowSum := sum6 (s.availability speed)
    let predSum := sum6 (s.availability (speed - s.speed.ref.estimate.toNat * b.airLead / 1000))
    let effort (k : TruckSlot) (kPa : Nat) : Nat := (kPa - s.tables.truck[k].dead) * s.tables.truck[k].gain / 64
    let eligible (k : TruckSlot) : Bool :=
      s.tables.truck[k].airPresent && decide (s.serves (valveOf k)) && decide (s.slide.trucks[k].request ≠ .vent)
    let cap (k : TruckSlot) : Nat :=
      if s.slide.trucks[k].request = .hold then
        min (effort k s.tables.truck[k].maximum) (effort k s.blend.trucks[k].output)
      else effort k s.tables.truck[k].maximum
    let shares := split g.totals.airTarget (eligible 0) (eligible 1) (cap 0) (cap 1)
    let air (k : TruckSlot) : Nat :=
      if s.serves (valveOf k) then (match (s.node (valveOf k)).achieved with | none => 0 | some kPa => effort k kPa) else 0
    g.mode = (if s.blend.fallback = true ∧ (s.demand.eff.mode = .blended ∨ s.demand.eff.mode = .dynamicOnly) then .airOnly
      else s.demand.eff.mode) ∧
    g.totals.demanded = (match g.mode with
      | .release => 0 | .emergency => b.fullService
      | .dynamicOnly => s.demand.eff.level * b.fullService / 1000 | .blended => s.demand.eff.level * b.fullService / 1000
      | .airOnly => s.demand.eff.level * b.fullService / 1000) ∧
    g.totals.airTarget = (match g.mode with
      | .blended => g.totals.demanded - min g.totals.demanded predSum
      | .airOnly => g.totals.demanded | .dynamicOnly => 0 | .release => 0 | .emergency => 0) ∧
    g.totals.unplaced = g.totals.airTarget - (shares.1 + shares.2) ∧
    (∀ k : TruckSlot,
      let t := s.tables.truck[k]
      let share := if k = 0 then shares.1 else shares.2
      let wanted := if s.slide.trucks[k].request = .vent then 0
        else if g.mode = .emergency then t.emergency
        else max (if share = 0 then 0 else min (t.dead + (share * 64 + t.gain - 1) / t.gain) t.maximum)
          (min s.demand.eff.floor t.maximum)
      g.trucks[k] = if s.slide.trucks[k].request = .hold then min wanted s.blend.trucks[k].output else wanted) ∧
    g.totals.airAchieved = air 0 + air 1 ∧
    g.totals.dynamic = (match g.mode with
      | .blended => min nowSum (g.totals.demanded - min g.totals.demanded g.totals.airAchieved)
      | .dynamicOnly => min nowSum g.totals.demanded | .airOnly => 0 | .release => 0
      | .emergency => if b.dynInEmergency then min nowSum b.fullService else 0) ∧
    g.totals.dynamicAchieved = sum6 (fun i => if s.serves (inverterOf i) then (s.node (inverterOf i)).achieved.getD 0 else 0) ∧
    g.totals.shortfall = g.totals.demanded - min g.totals.demanded (g.totals.dynamicAchieved + g.totals.airAchieved)) ∧
  (∀ (s : State) (unplaced : Nat),
    let u := if s.blend.prevUnplaced = 0 ∧ 0 < unplaced then s.raise .airUnplaced else s
    s.noteUnplaced unplaced = { u with blend := { u.blend with prevUnplaced := unplaced } })

/-- The ramp stage (R95 to R100). An axle whose inverter is not in service takes output 0, one in RELIEF is cut to its target; a rise
forms the wanted slope, limited by the application rate and in its growth by the jerk unless that is 0, and goes up by its step; a
fall goes down by the release step; neither passes the target. A truck in VENT takes 0, one in EMERGENCY with no relief request the
emergency pressure, and otherwise the output moves toward its target by the air steps. Every step is its rate times the interval,
rounded down. -/
def Obligations.OutputsMoveByTheirSteps : Prop :=
  (∀ (set : RampSet) (ms target : Nat) (a : AxleDrive),
    (∀ relief, rampAxle set ms true relief target a = { target := target, output := 0, slope := 0 }) ∧
    rampAxle set ms false true target a = { target := target, output := min a.output target, slope := 0 } ∧
    let b := rampAxle set ms false false target a
    (a.output < target →
      let wanted := min set.application (((target - a.output) * 1000 + ms - 1) / ms)
      let slope := if set.jerk = 0 then wanted else min wanted (a.slope + set.jerk * ms / 1000)
      b = { target := target, slope := slope, output := min target (a.output + slope * ms / 1000) }) ∧
    (target < a.output → b = { target := target, slope := 0, output := max target (a.output - set.release * ms / 1000) }) ∧
    (target = a.output → b = { target := target, slope := 0, output := a.output }) ∧
    (a.output ≤ target → a.output ≤ b.output ∧ b.output ≤ target ∧ b.output ≤ a.output + set.application * ms / 1000) ∧
    (target ≤ a.output → target ≤ b.output ∧ b.output ≤ a.output ∧ a.output ≤ b.output + set.release * ms / 1000) ∧
    (set.jerk ≠ 0 → b.slope ≤ a.slope + set.jerk * ms / 1000) ∧ b.slope ≤ set.application) ∧
  (∀ (set : RampSet) (ms emergency target : Nat) (m : Mode) (r : Relief) (p : TruckDrive),
    let q := rampTruck set ms m r emergency target p
    (r = .vent → q = { target := target, output := 0 }) ∧
    (m = .emergency → r = .calm → q = { target := target, output := emergency }) ∧
    (r ≠ .vent → ¬ (m = .emergency ∧ r = .calm) →
      (p.output < target → q = { target := target, output := min target (p.output + set.airApplication * ms / 1000) }) ∧
      (target < p.output → q = { target := target, output := max target (p.output - set.airRelease * ms / 1000) }) ∧
      (target = p.output → q = { target := target, output := p.output }))) ∧
  (∀ (g : Targets) (ms : Nat) (s : State), s.ramp g ms = { s with blend := { s.blend with
    axles := vec6 fun i => rampAxle s.tables.ramp ms (decide (¬ s.serves (inverterOf i)))
      (decide (s.slide.axles[i].state = .relief)) g.axles[i] s.blend.axles[i]
    trucks := vec2 fun k => rampTruck s.tables.ramp ms g.mode s.slide.trucks[k].request s.tables.truck[k].emergency g.trucks[k]
      s.blend.trucks[k] } })

/-- CLEAR_FALLBACK (R89): the flag before the service is returned, and the flag is clear. -/
def Obligations.ClearFallbackClearsTheFlag : Prop :=
  ∀ (s : State) (r : Request) (rest : List Request), s.asks r rest 0x09 →
    exec .clearFallback s = .next (
      if r.args = [] then
        State.replied { s with blend := { s.blend with fallback := false } } r .ok [if s.blend.fallback then 1 else 0]
      else s.replied r .badRequest [])

/-! ## Slide controller -/

/-- SLIDE_HOLD_EXPIRY, RELIEF_LOCKOUT_EXPIRY and the relief requests of an epoch (R25, R114, R118 to R120). An axle whose hold timer
is due goes to REAPPLY, to NORMAL, or stays in HOLD with the timer restarted, by its latest slip; a truck whose lockout timer is due is
locked out and RELIEF_LOCKOUT raised. At an epoch a truck wants VENT with two axles in RELIEF, or one without output under air; HOLD
with one in RELIEF or HOLD; and NONE otherwise. A locked-out truck requests NONE, until no axle of it is in RELIEF; any other requests
what it wants, the lockout timer running from the first request that is not NONE. A timer that is stopped or not due has no expiry
(model choice, note 2). -/
def Obligations.SlideTimersAndReliefRequests : Prop :=
  (∀ (i : AxleSlot) (s : State),
    let a := s.slide.axles[i]
    (¬ Timer.due a.holdTimer s.now → exec (.slideHoldExpiry i) s = .next s) ∧
    (Timer.due a.holdTimer s.now → ¬ a.slip ≤ s.tables.slide.slipRelease →
      exec (.slideHoldExpiry i) s = .next (s.onAxleSlide i fun a =>
        { a with holdTimer := some (s.now + BitVec.ofNat 48 (s.tables.slide.holdTime * 1000)) })) ∧
    (∀ l c, Timer.due a.holdTimer s.now → a.slip ≤ s.tables.slide.slipRelease → a.limit = some l → a.ceiling = some c →
      exec (.slideHoldExpiry i) s = .next (s.onAxleSlide i fun a =>
        if l < c then { a with state := .reapply, holdTimer := none }
        else { a with state := .normal, limit := none, cycles := 0, holdTimer := none }))) ∧
  (∀ (k : TruckSlot) (s : State),
    (¬ Timer.due s.slide.trucks[k].timer s.now → exec (.reliefLockoutExpiry k) s = .next s) ∧
    (Timer.due s.slide.trucks[k].timer s.now →
      exec (.reliefLockoutExpiry k) s = .next
        ((s.onTruckSlide k fun t => { t with timer := none, lockedOut := true }).raise (.reliefLockout k)))) ∧
  (∀ s : State,
    let u := s.formRelief
    u = { s with slide := { s.slide with trucks := u.slide.trucks } } ∧
    ∀ k : TruckSlot,
      let axles : List AxleSlot := if k = 0 then [0, 1, 2] else [3, 4, 5]
      let inRelief (i : AxleSlot) : Bool := decide (s.slide.axles[i].state = .relief)
      let vents := 2 ≤ axles.countP inRelief ∨
        (∃ i ∈ axles, s.slide.axles[i].state = .relief ∧ s.blend.axles[i].output = 0) ∧
          ∃ kPa, (s.node (valveOf k)).achieved = some kPa ∧ s.tables.truck[k].dead < kPa
      let holds := ∃ i ∈ axles, s.slide.axles[i].state = .relief ∨ s.slide.axles[i].state = .hold
      let t := s.slide.trucks[k]
      (t.lockedOut = true → u.slide.trucks[k] = { request := .calm, timer := none, lockedOut := axles.any inRelief }) ∧
      (t.lockedOut = false → ∃ wanted : Relief,
        (vents → wanted = .vent) ∧ (¬ vents → holds → wanted = .hold) ∧ (¬ vents → ¬ holds → wanted = .calm) ∧
        u.slide.trucks[k] =
          { request := wanted, lockedOut := false
            timer := if wanted = .calm then none
              else if t.request = .calm then some (s.now + BitVec.ofNat 48 (s.tables.slide.lockoutTime * 1000))
              else t.timer }))

/-- The slide controller and a good entry handed on (R45, R107 to R116). The slip is stored in every part state. Outside RUN, without a
VALID reference at the minimum speed, or on an axle that is not VALID, the axle returns to rest. Otherwise its state's rule applies:
NORMAL counts onsets, enters RELIEF at the setting, and lets a ceiling recover; RELIEF goes to HOLD, deepens its limit or waits; HOLD
and REAPPLY return to RELIEF at an onset; REAPPLY raises its limit, to NORMAL at the ceiling. An entry into RELIEF at the cycle limit
raises SLIDE_PERSISTENT and gives the trigger, in that order (model choice, note 11). In RUN the monitor's pass over an entry that
watches the slip comes before or after the evaluation, in an order that is free (model choice, note 9). -/
def Obligations.SlideEvaluationFollowsTheCycle : Prop :=
  ∀ (g : GoodEntry) (s : State),
    let i := g.axle
    let ref := s.speed.ref.value
    let slip := ref - g.speed
    let perMille := if ref = 0 then 0 else slip * 1000 / ref
    let a := s.slide.axles[i]
    let set := s.tables.slide
    let y := s.blend.axles[i].output
    let onset := set.slipOnset ≤ perMille ∨ set.absoluteOnset ≤ slip ∨ (set.decelOnset : Int) ≤ g.decel
    let active := s.agent.part = .run ∧ s.speed.ref.state = .valid ∧ set.minSpeed ≤ ref ∧ s.speed.axles[i].validity = .valid
    let scaledBy (factor v : Nat) : Nat := v * factor / 256
    let grow (rate : Nat) : Nat := rate * g.gap.toNat / 1000000
    let oneMore := min 255 (a.cycles + 1)
    let lowered := match a.ceiling with | none => scaledBy set.ceilingFactor y | some c => min c (scaledBy set.ceilingFactor y)
    let recovered := if perMille ≤ set.slipRelease then
        (match a.ceiling with
          | none => none
          | some c => if grow set.recoveryRate = 0 then some c
            else if s.tables.blend.axleLimit ≤ c + grow set.recoveryRate then none else some (c + grow set.recoveryRate))
      else a.ceiling
    let held : AxleSlide :=
      { a with state := .hold, holdTimer := some (s.now + BitVec.ofNat 48 (set.holdTime * 1000)) }
    let deeper := a.limit.map (scaledBy set.reliefFactor)
    let new := s.evaluated g
    s.storeSlip g = s.onAxleSlide i (fun x => { x with slip := perMille }) ∧
    (¬ active → new =
      { a with state := .normal, onset := 0, limit := none, ceiling := none, holdTimer := none, cycles := 0 }) ∧
    (active → a.state = .normal → onset → set.onsetCount ≤ a.onset + 1 → new =
      { a with state := .relief, onset := 0, ceiling := some lowered, cycles := 1
               limit := some (min (scaledBy set.reliefFactor y) lowered) }) ∧
    (active → a.state = .normal → onset → a.onset + 1 < set.onsetCount → new =
      { a with onset := a.onset + 1, ceiling := recovered }) ∧
    (active → a.state = .normal → ¬ onset → new = { a with onset := 0, ceiling := recovered }) ∧
    (active → a.state = .relief → g.turn = true → new = held) ∧
    (active → a.state = .relief → g.turn = false → onset → g.trend ≠ .accel → new = { a with limit := deeper }) ∧
    (active → a.state = .relief → g.turn = false → ¬ (onset ∧ g.trend ≠ .accel) →
      new = if perMille ≤ set.slipRelease then held else a) ∧
    (active → a.state = .hold → onset → new =
      { a with state := .relief, limit := deeper, cycles := oneMore, holdTimer := none }) ∧
    (active → a.state = .hold → ¬ onset → new = a) ∧
    (∀ l c, active → a.state = .reapply → a.limit = some l → a.ceiling = some c →
      (onset → new =
        { a with state := .relief, ceiling := some lowered, cycles := oneMore
                 limit := some (min (scaledBy set.reliefFactor (min l y)) lowered) }) ∧
      (¬ onset → c ≤ l + grow set.reapplyRate → new = { a with state := .normal, limit := none, cycles := 0 }) ∧
      (¬ onset → l + grow set.reapplyRate < c → new = { a with limit := some (l + grow set.reapplyRate) })) ∧
    (let placed := s.onAxleSlide i fun _ => new
     s.evaluateSlide g = if a.state ≠ .relief ∧ new.state = .relief ∧ new.cycles = set.cycleLimit then
        (placed.raise (.slidePersistent i)).trigger (.slidePersistent i)
      else placed) ∧
    (let stored := s.storeSlip g
     let watched := ∃ m : Fin 8, s.tables.monitor[m].enabled = true ∧ s.tables.monitor[m].source = .axleSlip i
     let pass (u : State) : State := u.monitorPass [(.axleSlip i, (perMille : Int))]
     let taken := { stored with draws := stored.draws + 1 }
     (s.agent.part ≠ .run ∨ ¬ watched → s.handOn g = stored.evaluateSlide g) ∧
     (s.agent.part = .run → watched → s.handOn g = pass (taken.evaluateSlide g) ∨ s.handOn g = (pass taken).evaluateSlide g))

/-- An axle has a slide limit exactly when it is not NORMAL, and its limit never exceeds its adhesion ceiling, after every step
(R111 to R117). -/
def Obligations.SlideLimitStaysUnderTheCeiling : Prop := KeptByEveryStep State.SlideSound

/-! ## Order unit -/

/-- EXCHANGE_DEADLINE_EXPIRY (R25, R129, R132, R133, R136): an AWAITING exchange ends missed, its tag becomes the last missed tag, and
the supervision takes the outcome: the miss run rises and the good run is 0; JOINING falls to LOST with no event and no trigger, ACTIVE
to DEGRADED and DEGRADED to LOST at their counts, with their events, and LOST with its trigger and its waiting orders withdrawn. The
loss of the last node in service starts the control-loss timer in RUN, and nothing else moves it; no other node's records change. A
timer that is stopped or not due has no expiry (model choice, note 2). -/
def Obligations.DeadlineEndsTheExchangeMissed : Prop :=
  ∀ (n : NodeSlot) (s : State),
    let missed : State := s.onNode n fun x =>
      { x with exch := { x.exch with awaiting := false, deadline := none, lastMissed := some x.exch.tag }
               counts := { x.counts with missed := x.counts.missed + 1 } }
    (¬ Timer.due (s.node n).exch.deadline s.now → exec (.exchangeDeadlineExpiry n) s = .next s) ∧
    (Timer.due (s.node n).exch.deadline s.now → (s.node n).exch.awaiting = true →
      exec (.exchangeDeadlineExpiry n) s = .next (missed.takeOutcome n false)) ∧
    (Timer.due (s.node n).exch.deadline s.now → (s.node n).exch.awaiting = true →
      Carried (.exchangeDeadlineExpiry n) s fun t =>
        (t.node n).exch = { (s.node n).exch with
          awaiting := false, deadline := none, lastMissed := some (s.node n).exch.tag } ∧
        (t.node n).counts = { (s.node n).counts with missed := (s.node n).counts.missed + 1 } ∧
        (t.node n).sup.missRun = min 255 ((s.node n).sup.missRun + 1) ∧ (t.node n).sup.goodRun = 0 ∧
        ((s.node n).sup.state = .active → s.tables.node[n].degrade ≤ (t.node n).sup.missRun →
          (t.node n).sup.state = .degraded ∧ t.isPending (.nodeDegraded n)) ∧
        ((s.node n).sup.state = .degraded → s.tables.node[n].lost ≤ (t.node n).sup.missRun →
          (t.node n).sup.state = .lost ∧ t.isPending (.nodeLost n) ∧ (∀ f ∈ t.link.portB.originated, f.origin ≠ .order n) ∧
          t.recorder = (s.trigger (.nodeLost n)).recorder) ∧
        ((s.node n).sup.state = .joining →
          (t.node n).sup.state = .lost ∧ t.monitor = s.monitor ∧ t.recorder = s.recorder ∧ t.link = s.link) ∧
        (s.agent.part = .run → 0 < s.servingNodes → t.servingNodes = 0 →
          t.order.controlLoss = some (s.now + BitVec.ofNat 48 (s.tables.blend.controlLoss * 1000))) ∧
        (s.agent.part ≠ .run ∨ s.servingNodes = 0 ∨ 0 < t.servingNodes → t.order.controlLoss = s.order.controlLoss) ∧
        (t.node n).achieved = (s.node n).achieved ∧ (t.node n).cap = (s.node n).cap ∧
        (∀ m : NodeSlot, m ≠ n → t.node m = s.node m) ∧
        t.time = s.time ∧ t.speed = s.speed ∧ t.demand = s.demand ∧ t.blend = s.blend ∧ t.slide = s.slide ∧
        t.agent = s.agent ∧ t.tables = s.tables)

/-- NODE_CUT and NODE_RESTORE (R134 to R136): checks, data and effects. A node not yet cut has its AWAITING exchange abandoned and its
deadline stopped, takes CUT_OUT with both runs 0, and loses its waiting orders; in RUN, when present, it is offered one release order,
counted as not sent when Port B's queue is full; and the cut of the last node in service starts the control-loss timer in RUN. A node
already cut, and one restored that is not cut, stay as they are. -/
def Obligations.NodesAreCutAndRestored : Prop :=
  ∀ (s : State) (r : Request) (rest : List Request),
    (s.asks r rest 0x07 →
      (r.args.length ≠ 1 → exec .nodeCut s = .next (s.replied r .badRequest [])) ∧
      (∀ b : Byte, r.args = [b] → 8 ≤ b.toNat → exec .nodeCut s = .next (s.replied r .badIndex [])) ∧
      (∀ n : NodeSlot, r.args = [BitVec.ofNat 8 n.val] →
        ∃ u : State, exec .nodeCut s = .next (u.replied r .ok [(s.node n).sup.state.code]) ∧
          ((s.node n).sup.state = .cutOut → u = s) ∧
          ((s.node n).sup.state ≠ .cutOut →
            let abandoned : State := s.onNode n fun x =>
              { x with
                sup := { state := .cutOut, goodRun := 0, missRun := 0 }
                exch := { x.exch with awaiting := false, deadline := none }
                counts := { x.counts with abandoned := x.counts.abandoned + (if x.exch.awaiting then 1 else 0) } }
            let cut : State := { abandoned with link := { s.link with portB := { s.link.portB with
              originated := s.link.portB.originated.filter fun f => f.origin ≠ Origin.order n } } }
            let released : State := if s.agent.part = .run ∧ s.tables.node[n].present = true then
                (if cut.link.portB.originated.length < 12 then
                  cut.accept .b (.release n) s.tables.node[n].address 0x31 [BitVec.ofNat 8 s.blend.epoch.toNat, 0, 0, 0, 0]
                else cut.onNode n fun x =>
                  { x with counts := { x.counts with releasesNotSent := x.counts.releasesNotSent + 1 } })
              else cut
            let timer := if s.agent.part = .run ∧ 0 < s.servingNodes ∧ released.servingNodes = 0 then
                some (s.now + BitVec.ofNat 48 (s.tables.blend.controlLoss * 1000))
              else s.order.controlLoss
            u = { released with order := { released.order with controlLoss := timer } } ∧
            (u.node n).sup = { state := .cutOut, goodRun := 0, missRun := 0 } ∧ (u.node n).exch.awaiting = false ∧
            (u.node n).exch.deadline = none ∧ (u.node n).counts.issued = (s.node n).counts.issued ∧
            (∀ f ∈ u.link.portB.originated, f.origin ≠ .order n)) ∧
          (∀ m : NodeSlot, m ≠ n → u.node m = s.node m) ∧
          u.time = s.time ∧ u.speed = s.speed ∧ u.demand = s.demand ∧ u.blend = s.blend ∧ u.slide = s.slide ∧
          u.monitor = s.monitor ∧ u.recorder = s.recorder ∧ u.agent = s.agent ∧ u.tables = s.tables ∧ u.draws = s.draws)) ∧
    (s.asks r rest 0x08 →
      (r.args.length ≠ 1 → exec .nodeRestore s = .next (s.replied r .badRequest [])) ∧
      (∀ b : Byte, r.args = [b] → 8 ≤ b.toNat → exec .nodeRestore s = .next (s.replied r .badIndex [])) ∧
      (∀ n : NodeSlot, r.args = [BitVec.ofNat 8 n.val] →
        exec .nodeRestore s = .next (
          (if (s.node n).sup.state = .cutOut then
            s.onNode n fun x => { x with sup := { state := .absent, goodRun := 0, missRun := 0 } }
          else s).replied r .ok [(s.node n).sup.state.code])))

/-- Every exchange begins with one issue and ends with one outcome: the balance of R131 holds for every node after every step. -/
def Obligations.OutcomesStayBalanced : Prop := KeptByEveryStep State.OutcomesBalanced

/-- Control loss (R25, R103, R136, R137, R174). An outcome that brings the first node into service stops the control-loss timer, and one
that takes the last out of it in RUN starts it. CONTROL_LOSS_EXPIRY stops the timer and enters FAILSAFE: in RUN the FAILSAFE_ENTRY
trigger is given, cause and cause entry are set, the part leaves RUN and FAILSAFE_ENTERED is raised; the part is then in FAILSAFE with
cause CONTROL_LOST, the control-valid line inactive, every output and exchange at rest. A timer that is stopped or not due has no expiry
(model choice, note 2). -/
def Obligations.ControlLossEntersFailsafe : Prop :=
  ∀ s : State,
    (¬ Timer.due s.order.controlLoss s.now → exec .controlLossExpiry s = .next s) ∧
    (Timer.due s.order.controlLoss s.now → exec .controlLossExpiry s =
      .next (State.enterFailsafe .controlLost 0 { s with order := { s.order with controlLoss := none } })) ∧
    (∀ (c : FailsafeCause) (entry : Nat),
      let t := s.trigger .failsafeEntry
      s.enterFailsafe c entry = if s.agent.part = .run then
          (State.leaveRun .failsafe { t with agent := { t.agent with cause := c, causeEntry := entry } }).raise .failsafeEntered
        else s) ∧
    (∀ (n : NodeSlot) (good : Bool),
      let t := s.takeOutcome n good
      (s.servingNodes = 0 → 0 < t.servingNodes → t.order.controlLoss = none) ∧
      (s.agent.part = .run → 0 < s.servingNodes → t.servingNodes = 0 →
        t.order.controlLoss = some (s.now + BitVec.ofNat 48 (s.tables.blend.controlLoss * 1000))) ∧
      (s.servingNodes = 0 ∧ t.servingNodes = 0 ∨ 0 < s.servingNodes ∧ (0 < t.servingNodes ∨ s.agent.part ≠ .run) →
        t.order.controlLoss = s.order.controlLoss)) ∧
    (Timer.due s.order.controlLoss s.now → s.agent.part = .run → Carried .controlLossExpiry s fun t =>
      t.agent = { s.agent with part := .failsafe, controlValid := false, cause := .controlLost, causeEntry := 0 } ∧
      t.AtRest ∧ t.isPending .failsafeEntered ∧ (∀ f ∈ t.link.portB.originated, f.isOrder = false) ∧
      (∀ n : NodeSlot, (t.node n).sup = (s.node n).sup ∧ (t.node n).achieved = (s.node n).achieved) ∧
      t.blend.epoch = s.blend.epoch ∧ t.blend.fallback = s.blend.fallback ∧ t.demand.eff = s.demand.eff ∧
      t.speed = s.speed ∧ t.time = s.time ∧ t.tables = s.tables)

/-- The orders of a publication (R124, R125, Table 8-3). In RUN the node slots are taken in turn, and outside it none. A slot without a
present node, or cut out, is passed over. An AWAITING exchange is superseded first: missed, its outcome taken, and its order that still
waits withdrawn (the newest of the node in the queue: model choice, note 29). Then the order carries the node's output while it is in
service, and is a probe otherwise: value 0, HOLD to an inverter, RELEASE to a valve unit. Accepted, it begins the exchange at the epoch
time; refused by a full queue, it is counted NOT_SENT and missed, and the outcome is taken. -/
def Obligations.OrdersFollowEachPublication : Prop :=
  (∀ s : State, (s.agent.part = .run → s.orderAll = ([0, 1, 2, 3, 4, 5, 6, 7] : List NodeSlot).foldl State.orderNode s) ∧
    (s.agent.part ≠ .run → s.orderAll = s)) ∧
  (∀ (n : NodeSlot) (s : State),
    let p := s.blend.pub
    let tag := BitVec.ofNat 8 p.epoch.toNat
    let served := decide ((s.node n).sup.state = .active ∨ (s.node n).sup.state = .degraded)
    let control : Control := if served || decide (n.val < 6) then .holdControl else .releaseControl
    let value := if served then (if h : n.val < 6 then p.axles[n.val].output else p.trucks[n.val - 6].output) else 0
    let payload : List Byte := tag :: (if control = .holdControl then 1 else 0) ::
      (if p.demand.mode = .emergency then 1 else 0) :: toBytes 2 value
    (s.tables.node[n].present = false ∨ (s.node n).sup.state = .cutOut → s.orderNode n = s) ∧
    (s.tables.node[n].present = true → (s.node n).sup.state ≠ .cutOut → (s.node n).exch.awaiting = false →
      (s.link.portB.originated.length < 12 →
        s.orderNode n = (s.accept .b (.order n) s.tables.node[n].address 0x31 payload).onNode n fun x =>
          { x with
            exch := { x.exch with awaiting := true, tag := tag, control := control, value := value, issued := p.time
                                  deadline := some (p.time + BitVec.ofNat 48 (s.tables.node[n].response * 1000)) }
            counts := { x.counts with issued := x.counts.issued + 1 } }) ∧
      (12 ≤ s.link.portB.originated.length →
        s.orderNode n = State.takeOutcome n false (s.onNode n fun x =>
          { x with counts := { x.counts with
            issued := x.counts.issued + 1, missed := x.counts.missed + 1, notSent := x.counts.notSent + 1 } }))) ∧
    (s.tables.node[n].present = true → (s.node n).sup.state ≠ .cutOut → (s.node n).exch.awaiting = true →
      let missed := State.takeOutcome n false (s.onNode n fun x =>
        { x with exch := { x.exch with awaiting := false, deadline := none }
                 counts := { x.counts with missed := x.counts.missed + 1 } })
      s.orderNode n = State.orderNode { missed with link := { missed.link with portB := { missed.link.portB with
        originated := (missed.link.portB.originated.reverse.eraseP fun f => f.origin = Origin.order n).reverse } } } n))

/-- Reports and outcomes (R126 to R128, R132, R133, Table 8-4). A report of a wrong form is refused and counted. One that answers
the outstanding order ends the exchange: BAD for FAULT, and for LOCAL to HOLD_CONTROL, GOOD otherwise; a GOOD answer to
HOLD_CONTROL stores the achieved value, for an inverter the cap when LIMITED and none when OK, and for a valve unit gives the
monitor a pass over its pressure. One that answers nothing is counted late or stray and changes nothing else. An outcome moves the
runs and the state of Table 8-4, raises NODE_DEGRADED or NODE_LOST with its trigger, and withdraws the lost node's waiting orders;
that it raises NODE_LOST, gives the trigger and withdraws in this order is a model choice (note 11). -/
def Obligations.ReportsAreMatched : Prop :=
  (∀ (n : NodeSlot) (s : State) (stamp : Count) (f : Frame),
    let payload := (f.drop 5).take (f.length - 7)
    let tag := payload.getD 0 0
    let status := (payload.getD 1 0).toNat
    let achieved := ofBytes ((payload.drop 2).take 2)
    let refused := payload.length ≠ 6 ∨ s.tables.node[n].present = false ∨ 3 < status
    let matched := s.matchReport n stamp tag status achieved (ofBytes ((payload.drop 4).take 2))
    let x := (s.node n).exch
    let stores := 6 ≤ n.val ∧ x.awaiting = true ∧ x.tag = tag ∧ x.control = .holdControl ∧ status ≤ 1
    (refused → takeReport n stamp f s = { s with link := { s.link with reportsRefused := s.link.reportsRefused + 1 } }) ∧
    (¬ refused → ¬ stores → takeReport n stamp f s = matched) ∧
    (¬ refused → stores → takeReport n stamp f s =
      matched.monitorPass [(.truckPressure (if n.val = 6 then 0 else 1), (achieved : Int))])) ∧
  (∀ (n : NodeSlot) (s : State) (stamp : Count) (tag : Byte) (status achieved capability : Nat), status ≤ 3 →
    let x := s.node n
    let t := s.matchReport n stamp tag status achieved capability
    let good := decide (status ≤ 1 ∨ (status = 3 ∧ x.exch.control = .releaseControl))
    let ended := State.takeOutcome n good (s.onNode n fun x =>
      { x with
        exch := { x.exch with awaiting := false, deadline := none, replyTime := (elapsed x.exch.issued stamp).toNat }
        counts := if good then { x.counts with good := x.counts.good + 1 } else { x.counts with bad := x.counts.bad + 1 } })
    (x.exch.awaiting = false ∨ x.exch.tag ≠ tag →
      t = s.onNode n fun x =>
        { x with counts :=
          if x.exch.lastMissed = some tag then { x.counts with late := x.counts.late + 1 }
          else { x.counts with stray := x.counts.stray + 1 } }) ∧
    (x.exch.awaiting = true → x.exch.tag = tag → x.exch.control = .holdControl → status ≤ 1 →
      t = ended.onNode n fun x =>
        { x with achieved := some achieved
                 cap := if n.val < 6 then (if status = 1 then some capability else none) else x.cap }) ∧
    (x.exch.awaiting = true → x.exch.tag = tag → x.exch.control = .releaseControl ∨ 2 ≤ status → t = ended) ∧
    (x.exch.awaiting = true → x.exch.tag = tag → x.exch.control = .holdControl → status = 0 →
      (t.node n).exch = { x.exch with awaiting := false, deadline := none, replyTime := (elapsed x.exch.issued stamp).toNat } ∧
      (t.node n).counts = { x.counts with good := x.counts.good + 1 } ∧
      (t.node n).achieved = some achieved ∧ (t.node n).cap = (if n.val < 6 then none else x.cap) ∧
      (t.node n).sup.goodRun = min 255 (x.sup.goodRun + 1) ∧ (t.node n).sup.missRun = 0 ∧
      (∀ m : NodeSlot, m ≠ n → t.node m = s.node m) ∧ t.time = s.time ∧ t.speed = s.speed ∧ t.demand = s.demand ∧
      t.blend = s.blend ∧ t.slide = s.slide ∧ t.agent = s.agent ∧ t.tables = s.tables) ∧
    (x.exch.awaiting = true → x.exch.tag = tag → status = 2 →
      (t.node n).exch.awaiting = false ∧ (t.node n).counts = { x.counts with bad := x.counts.bad + 1 } ∧
      (t.node n).achieved = x.achieved ∧ (t.node n).cap = x.cap ∧ (∀ m : NodeSlot, m ≠ n → t.node m = s.node m))) ∧
  (∀ (n : NodeSlot) (good : Bool) (s : State),
    let e := s.tables.node[n]
    let old := (s.node n).sup
    let goodRun := if good then min 255 (old.goodRun + 1) else 0
    let missRun := if good then 0 else min 255 (old.missRun + 1)
    let state : NodeState := match old.state, good with
      | .absent, true => if e.join ≤ goodRun then .active else .joining
      | .joining, true => if e.join ≤ goodRun then .active else .joining
      | .lost, true => if e.join ≤ goodRun then .active else .joining
      | .active, true => .active
      | .degraded, true => if e.join ≤ goodRun then .active else .degraded
      | .cutOut, _ => .cutOut
      | .absent, false => .absent
      | .joining, false => .lost
      | .active, false => if e.degrade ≤ missRun then .degraded else .active
      | .degraded, false => if e.lost ≤ missRun then .lost else .degraded
      | .lost, false => .lost
    let moved := s.onNode n fun x => { x with sup := { state := state, goodRun := goodRun, missRun := missRun } }
    let lost := (moved.raise (.nodeLost n)).trigger (.nodeLost n)
    let told : State := if old.state = .active ∧ state = .degraded then moved.raise (.nodeDegraded n)
      else if old.state = .degraded ∧ state = .lost then
        { lost with link := { lost.link with portB := { lost.link.portB with
          originated := lost.link.portB.originated.filter fun f => f.origin ≠ Origin.order n } } }
      else moved
    ∃ timer, s.takeOutcome n good = { told with order := { told.order with controlLoss := timer } })

/-! ## Condition monitor -/

/-- The condition monitor's entries (R87, R88, R141 to R144). An ABOVE entry fires at the persistence-th value above its threshold
and not before, and does not fire again while every value stays above its release level; BELOW is its mirror image. A crossing
entry places each value on a side, counts from its change of side in its direction, and fires at the persistence. A firing raises
the event, gives the trigger and sets the air-fallback flag, as its actions ask and in that order, which is a model choice (note
11). In RUN a pass judges every enabled entry of an updated source in entry order, and then hands on one FAILSAFE request with the
lowest entry that asked; outside RUN none is made. A publication updates six sources. -/
def Obligations.MonitorEntriesFire : Prop :=
  (∀ (e : MonEntry) (r : RunState) (vs : List Int), e.condition = .above → 1 ≤ e.persistence →
    let final := vs.foldl (fun (a : RunState × List Bool) v => ((judge e v a.1).1, a.2 ++ [(judge e v a.1).2])) (r, [])
    (r.active = false → r.count = 0 → (∀ v ∈ vs, e.threshold < v) → vs.length = e.persistence →
      final.1.active = true ∧ final.1.count = e.persistence ∧
        final.2 = List.replicate (e.persistence - 1) false ++ [true]) ∧
    (r.active = true → (∀ v ∈ vs, e.threshold - e.hysteresis < v) →
      final.1 = r ∧ final.2 = List.replicate vs.length false)) ∧
  (∀ (e : MonEntry) (v : Int) (r : RunState), e.condition = .above ∨ e.condition = .below →
    let met := (e.condition = .above ∧ e.threshold < v) ∨ (e.condition = .below ∧ v < e.threshold)
    let released := (e.condition = .above ∧ v ≤ e.threshold - e.hysteresis) ∨
      (e.condition = .below ∧ e.threshold + e.hysteresis ≤ v)
    (r.active = false → met → r.count + 1 < e.persistence → judge e v r = ({ r with count := r.count + 1 }, false)) ∧
    (r.active = false → met → e.persistence ≤ r.count + 1 →
      judge e v r = ({ r with active := true, count := e.persistence }, true)) ∧
    (r.active = false → ¬ met → released → judge e v r = ({ r with count := 0 }, false)) ∧
    (r.active = false → ¬ met → ¬ released → judge e v r = (r, false)) ∧
    (r.active = true → released → judge e v r = ({ r with active := false, count := 0 }, false)) ∧
    (r.active = true → ¬ released → judge e v r = (r, false))) ∧
  (∀ (e : MonEntry) (v : Int) (r : RunState), e.condition ≠ .above → e.condition ≠ .below →
    let side : Side := if e.threshold + e.hysteresis < v then .high else if v < e.threshold - e.hysteresis then .low else r.side
    let inBand := e.threshold - e.hysteresis ≤ v ∧ v ≤ e.threshold + e.hysteresis
    let wanted := e.condition = .crossAny ∨ (e.condition = .crossUp ∧ side = .high) ∨ (e.condition = .crossDown ∧ side = .low)
    let moved : RunState := if side = r.side then (if 0 < r.count ∧ ¬ inBand then { r with count := r.count + 1 } else r)
      else if r.side = .unknown then { r with side := side }
      else { active := false, count := if wanted then 1 else 0, side := side }
    judge e v r = if e.persistence ≤ moved.count then ({ moved with active := true, count := 0 }, true) else (moved, false)) ∧
  (∀ (m : Fin 8) (e : MonEntry) (s : State),
    let raised := if e.event then s.raise (.monitor m) else s
    let recorded := if e.record then raised.trigger (.monitor m) else raised
    s.fire m e = if e.airFallback = true ∧ recorded.blend.fallback = false then
        State.raise .fallbackSet { recorded with blend := { recorded.blend with fallback := true } }
      else recorded) ∧
  (∀ (u : Updates) (s : State),
    let one (acc : State × List (Fin 8)) (m : Fin 8) : State × List (Fin 8) :=
      let e := acc.1.tables.monitor[m]
      match u.find? (fun p => p.1 = e.source), e.enabled with
      | none, _ => acc
      | some _, false => acc
      | some p, true =>
        let j := judge e p.2 acc.1.monitor.runs[m]
        let kept := acc.1.setRun m j.1
        if j.2 then (kept.fire m e, if e.failsafe then acc.2 ++ [m] else acc.2) else (kept, acc.2)
    let pass := ([0, 1, 2, 3, 4, 5, 6, 7] : List (Fin 8)).foldl one (s, [])
    (s.agent.part ≠ .run → s.monitorPass u = s) ∧
    (s.agent.part = .run → s.monitorPass u =
      match pass.2 with | [] => pass.1 | m :: _ => pass.1.enterFailsafe .monitor m.val)) ∧
  (∀ s : State,
    let t := s.blend.pub.totals
    s.monitorPublication = s.monitorPass [(.demandedEffort, (t.demanded : Int)), (.dynamicTarget, (t.dynamic : Int)),
      (.dynamicAchieved, (t.dynamicAchieved : Int)), (.airAchieved, (t.airAchieved : Int)), (.shortfall, (t.shortfall : Int)),
      (.airUnplaced, (t.unplaced : Int))])

/-- A raise counts the pending event of its kind and index, or creates it at the tail of the set with the present count and epoch
and settles its notice, which carries the kind's code, the index of Table 1-14, the stamp and the epoch (R146, R147). -/
def Obligations.RaiseCountsOrCreates : Prop :=
  ∀ (s : State) (e : EventId),
    (s.isPending e = true → s.raise e = s.setEvents (s.monitor.events.map fun x =>
      if x.id = e then { x with count := if x.count < 255 then x.count + 1 else 255 } else x)) ∧
    (s.isPending e = false →
      let room := (s.port s.tables.link.noticePort).originated.length < 12
      let created (n : Notice) : List PendingEvent :=
        s.monitor.events ++ [{ id := e, count := 1, stamp := s.time.count, epoch := s.blend.epoch, notice := n }]
      (s.tables.link.noticeAddress = 0 → s.raise e = s.setEvents (created .unsent)) ∧
      (s.tables.link.noticeAddress ≠ 0 → ¬ room → s.raise e = s.setEvents (created .refused)) ∧
      (s.tables.link.noticeAddress ≠ 0 → room →
        s.raise e = (s.accept s.tables.link.noticePort .notice s.tables.link.noticeAddress 0x61
          (e.code :: e.index :: (toBytes 6 s.time.count.toNat ++ toBytes 4 s.blend.epoch.toNat))).setEvents (created .queued))) ∧
    (e.code, e.index) = (match e with
      | .demandLost d => ((0x01 : Byte), BitVec.ofNat 8 d.val)
      | .emergencyEntered => (0x02, 0)
      | .sensorFault i => (0x03, BitVec.ofNat 8 i.val)
      | .refHeld => (0x04, 0)
      | .refInvalid => (0x05, 0)
      | .slidePersistent i => (0x06, BitVec.ofNat 8 i.val)
      | .reliefLockout k => (0x07, BitVec.ofNat 8 (k.val + 1))
      | .nodeDegraded n => (0x08, BitVec.ofNat 8 n.val)
      | .nodeLost n => (0x09, BitVec.ofNat 8 n.val)
      | .airUnplaced => (0x0A, 0)
      | .fallbackSet => (0x0B, 0)
      | .failsafeEntered => (0x0C, 0)
      | .recordLost => (0x0D, 0)
      | .linkOverflow .a => (0x0E, 0)
      | .linkOverflow .b => (0x0E, 1)
      | .monitor m => (0x0F, BitVec.ofNat 8 m.val))

/-- At most one pending event of each kind and index, with a count of 1 to 255, after every step (R146). -/
def Obligations.EventsStayDistinct : Prop := KeptByEveryStep State.EventsDistinct

/-- READ_EVENTS (R148). -/
def Obligations.ReadEventsTakesTheOldestFour : Prop :=
  ∀ (s : State) (r : Request) (rest : List Request), s.asks r rest 0x06 →
    exec .readEvents s = .next (
      if r.args = [] then
        (s.setEvents (s.monitor.events.drop 4)).replied r .ok
          (BitVec.ofNat 8 (s.monitor.events.length - 4) ::
            (s.monitor.events.take 4).flatMap fun e =>
              [e.id.code, e.id.index, BitVec.ofNat 8 e.count,
                match e.notice with | .unsent => 0 | .queued => 1 | .refused => 2] ++
                toBytes 6 e.stamp.toNat ++ toBytes 4 e.epoch.toNat)
      else s.replied r .badRequest [])

/-! ## Incident recorder -/

/-- TRIGGER and RECORD_RELEASE (R163). -/
def Obligations.TriggerAndRelease : Prop :=
  ∀ (s : State) (r : Request) (rest : List Request),
    (s.asks r rest 0x0A →
      (r.args ≠ [] → exec .trigger s = .next (s.replied r .badRequest [])) ∧
      (r.args = [] → s.agent.part ≠ .run → exec .trigger s = .next (s.replied r .locked [])) ∧
      (r.args = [] → s.agent.part = .run → exec .trigger s = .next ((s.trigger .management).replied r .ok (
        match s.recorder.openIncident with
        | some x => 1 :: toBytes 2 x.number
        | none =>
          match makeRoom s.tables.recorder s.time.count (s.recorder.ring.length + s.tables.recorder.post)
              s.recorder.incidents with
          | some _ => 0 :: toBytes 2 s.recorder.nextNumber
          | none => [2, 0, 0])))) ∧
    (s.asks r rest 0x13 →
      (r.args.length ≠ 2 → exec .recordRelease s = .next (s.replied r .badRequest [])) ∧
      (r.args.length = 2 → exec .recordRelease s = .next (
        match s.recorder.incidents.find? fun x => x.number = ofBytes r.args with
        | none => s.replied r .badIndex []
        | some x =>
          if x.state = .opened then s.replied r .notClosed []
          else
            State.replied
              { s with recorder := { s.recorder with incidents := s.recorder.incidents.filter fun y => y.number ≠ x.number } }
              r .ok [if x.state = .closedUnread then 1 else 2])))

/-- Triggers and snapshots (R151 to R157, Tables 10-1 to 10-4). A trigger outside RUN, or one the cause mask leaves out, changes
nothing. With an incident OPEN it joins its causes, gives a first line stamp, and extends it from the free slots, TRUNCATED where
they do not cover what it wants. With none OPEN an incident opens that holds the ring, under the next number, which moves on past
every number held; where the store has no room, eligible incidents are freed oldest first, as few as needed; and where freeing
them all would not give room, RECORD_LOST is raised and the lost count moves. In RUN a publication gives one snapshot, of the
publication and of the blocks' records, to the ring and to the OPEN incident, which closes when no more are expected. That the
remaining count follows R157's formula whether a retrigger or a snapshot is taken first, and so can end one lower with the trigger
first, although R165 says that it ends the same, is a model choice (note 31). So is that an opening takes the ring as it stands,
so that with a ring not full, or of depth 0, the incident depends on whether the trigger or a snapshot is taken first, although
R165 says that the ring count plus the remaining count is the same and the snapshot is held once (note 32). -/
def Obligations.IncidentsOpenExtendAndClose : Prop :=
  (∀ (c : Cause) (s : State),
    let set := s.tables.recorder
    let r := s.recorder
    let mask := set.causeMask
    let enabled := match c with
      | .monitor _ => mask % 2 = 1 | .emergencyEntry => mask / 2 % 2 = 1 | .demandLost _ => mask / 4 % 2 = 1
      | .nodeLost _ => mask / 8 % 2 = 1 | .slidePersistent _ => mask / 16 % 2 = 1 | .incidentLine => mask / 32 % 2 = 1
      | .management => True | .failsafeEntry => True
    let post := if c = .failsafeEntry then 0 else set.post
    let free (xs : List Incident) : Nat :=
      1024 - (xs.map fun x => if x.state = .opened then x.reserved else x.snaps.length).sum
    let fits (xs : List Incident) : Prop := r.ring.length + post ≤ free xs ∧ xs.length < 16
    let expired (x : Incident) : Bool := match x.closeStamp with
      | none => false
      | some t => decide (elapsed t s.now < 0 ∨ (set.keepTime * 1000000 : Int) < elapsed t s.now)
    let stays (x : Incident) : Bool := decide (x.state = .opened ∨
      (x.state = .closedUnread ∧ set.policy ≠ .overwriteOldest ∧ (set.policy = .keepTimed → expired x = false)))
    let freed (k : Nat) : List Incident := (r.incidents.take k).filter stays ++ r.incidents.drop k
    let after (n : Nat) : Nat := if n < 65535 then n + 1 else 1
    let joined (x : Incident) : Incident :=
      let known := x.causes.any fun e => e.cause = c
      let wanted := if set.extension = true ∧ c ≠ .failsafeEntry then
          min set.post (set.maximum - x.snaps.length) - x.remaining
        else 0
      { x with
        causes := if known then
            x.causes.map fun e => if e.cause = c then { e with count := min 255 (e.count + 1) } else e
          else if x.causes.length < 4 then x.causes ++ [{ cause := c, stamp := s.now, count := 1 }]
          else x.causes
        moreCauses := x.moreCauses || (!known && decide (4 ≤ x.causes.length))
        lineStamp := if c = .incidentLine ∧ x.lineStamp = none then r.edge else x.lineStamp
        truncated := x.truncated || decide (free r.incidents < wanted)
        remaining := x.remaining + min wanted (free r.incidents)
        reserved := x.reserved + min wanted (free r.incidents) }
    let opened : Incident :=
      { number := r.nextNumber, state := .opened, openStamp := s.now, closeStamp := none
        causes := [{ cause := c, stamp := s.now, count := 1 }], cutShort := false, truncated := false, moreCauses := false
        mark := match s.time.mark.state with
          | .empty => none
          | .fresh => some { number := s.time.mark.number, master := s.time.mark.master, stamp := s.time.mark.stamp, fresh := true }
          | .read => some { number := s.time.mark.number, master := s.time.mark.master, stamp := s.time.mark.stamp, fresh := false }
        lineStamp := if c = .incidentLine then r.edge else none
        snaps := r.ring, remaining := post, reserved := r.ring.length + post }
    (s.agent.part ≠ .run ∨ ¬ enabled → s.trigger c = s) ∧
    (s.agent.part = .run → enabled → (∃ x ∈ r.incidents, x.state = .opened) →
      s.trigger c = { s with recorder := { r with
        incidents := r.incidents.map fun x => if x.state = .opened then joined x else x } }) ∧
    (s.agent.part = .run → enabled → (∀ x ∈ r.incidents, x.state ≠ .opened) →
      (∀ k, (k = 0 ∨ fits (r.incidents.filter stays)) → k ≤ r.incidents.length → fits (freed k) → (∀ j, j < k → ¬ fits (freed j)) →
        let kept := freed k ++ [opened]
        ∃ j, s.trigger c = { s with recorder := { r with incidents := kept, nextNumber := after^[j + 1] r.nextNumber } } ∧
          (∀ x ∈ kept, x.number ≠ after^[j + 1] r.nextNumber) ∧
          ∀ i, i < j → ∃ x ∈ kept, x.number = after^[i + 1] r.nextNumber) ∧
      (¬ fits r.incidents → ¬ fits (r.incidents.filter stays) →
        let u := s.raise .recordLost
        s.trigger c = { u with recorder := { u.recorder with lost := min 65535 (r.lost + 1) } }))) ∧
  (∀ s : State,
    let r := s.recorder
    let p := s.blend.pub
    let snap : Snapshot :=
      { epoch := p.epoch, time := p.time, kind := p.kind, active := vec8 fun m => s.monitor.runs[m].active
        demand := p.demand, fallback := p.fallback, refValue := p.refValue, refState := p.refState, estimate := p.estimate
        demanded := p.totals.demanded, dynamic := p.totals.dynamic, airTarget := p.totals.airTarget
        airAchieved := p.totals.airAchieved, unplaced := p.totals.unplaced, shortfall := p.totals.shortfall
        trucks := vec2 fun k =>
          { target := p.trucks[k].target, output := p.trucks[k].output, feedback := (s.node (valveOf k)).achieved
            relief := p.trucks[k].relief, node := (s.node (valveOf k)).sup.state }
        axles := vec6 fun i =>
          { speed := s.speed.axles[i].speed, validity := s.speed.axles[i].validity, slide := s.slide.axles[i].state
            limit := s.slide.axles[i].limit, ceiling := s.slide.axles[i].ceiling, target := p.axles[i].target
            output := p.axles[i].output, achieved := (s.node (inverterOf i)).achieved
            node := (s.node (inverterOf i)).sup.state } }
    let grown (x : Incident) : Incident := { x with snaps := x.snaps ++ [snap], remaining := x.remaining - 1 }
    (s.agent.part ≠ .run → s.takeSnapshot = s) ∧
    (s.agent.part = .run → s.takeSnapshot = { s with recorder := { r with
      ring := (r.ring ++ [snap]).drop (r.ring.length + 1 - s.tables.recorder.depth)
      incidents := r.incidents.map fun x =>
        if x.state ≠ .opened then x
        else if x.remaining ≤ 1 then
          { grown x with state := .closedUnread, closeStamp := some s.now, reserved := x.snaps.length + 1 }
        else grown x } }))

/-- RECORD_LIST and RECORD_HEADER (R159, R160, R161): the list's data field by field; the header of an incident, 56 bytes, whose
readout is complete at an accepted header when it holds no snapshot; each cause with its code and index of Table 10-2. That a time
offset is sent as the low 3 or 4 bytes of its two's complement, whatever its size, is a model choice (note 26). -/
def Obligations.RecordListAndHeader : Prop :=
  ∀ (s : State) (r : Request) (rest : List Request),
    (s.asks r rest 0x10 → exec .recordList s = .next (
      if r.args = [] then
        s.replied r .ok
          (toBytes 2 s.recorder.lost ++
            toBytes 2 (1024 - (s.recorder.incidents.map fun x => if x.state = .opened then x.reserved else x.snaps.length).sum) ++
            toBytes 2 s.recorder.nextNumber ++ [BitVec.ofNat 8 s.recorder.incidents.length] ++
            s.recorder.incidents.flatMap fun x =>
              toBytes 2 x.number ++ [(match x.state with | .opened => 0 | .closedUnread => 1 | .closedRead => 2 : Byte)])
      else s.replied r .badRequest [])) ∧
    (s.asks r rest 0x11 →
      (r.args.length ≠ 2 → exec .recordHeader s = .next (s.replied r .badRequest [])) ∧
      (r.args.length = 2 → (∀ x ∈ s.recorder.incidents, x.number ≠ ofBytes r.args) →
        exec .recordHeader s = .next (s.replied r .badIndex [])) ∧
      (∀ x, r.args.length = 2 → s.recorder.incidents.find? (fun x => x.number = ofBytes r.args) = some x →
        let cause (k : Nat) : List Byte :=
          match x.causes[k]? with
          | none => [0, 0, 0, 0, 0, 0]
          | some e =>
            (match e.cause with
              | .monitor m => [1, BitVec.ofNat 8 m.val]
              | .emergencyEntry => [2, 0]
              | .demandLost d => [3, BitVec.ofNat 8 d.val]
              | .nodeLost n => [4, BitVec.ofNat 8 n.val]
              | .slidePersistent i => [5, BitVec.ofNat 8 i.val]
              | .incidentLine => [6, 0]
              | .management => [7, 0]
              | .failsafeEntry => [8, 0]) ++ [BitVec.ofNat 8 e.count] ++ toBytes 3 (e.stamp - x.openStamp).toNat
        let header : List Byte :=
          [match x.state with | .opened => 0 | .closedUnread => 1 | .closedRead => 2,
            BitVec.ofNat 8 ((if x.cutShort then 1 else 0) + (if x.truncated then 2 else 0) + (if x.moreCauses then 4 else 0) +
              (if x.lineStamp.isSome then 8 else 0)),
            BitVec.ofNat 8 x.snaps.length, BitVec.ofNat 8 x.remaining] ++
          toBytes 6 x.openStamp.toNat ++
          toBytes 3 (match x.closeStamp with | none => 0 | some c => (c - x.openStamp).toNat) ++
          cause 0 ++ cause 1 ++ cause 2 ++ cause 3 ++
          (match x.mark with
            | none => List.replicate 15 0
            | some m => (if m.fresh then 1 else 2) :: (toBytes 2 m.number.toNat ++ toBytes 6 m.master.toNat ++
                toBytes 6 m.stamp.toNat)) ++
          toBytes 4 (match x.lineStamp with | none => 0 | some c => (c - x.openStamp).toNat)
        header.length = 56 ∧
        exec .recordHeader s = .next (
          if x.snaps = [] ∧ (s.port r.port).originated.length < 12 then
            State.popRequest ((s.respond r .ok header).setRecorder { s.recorder with
              incidents := s.recorder.incidents.map fun y =>
                if y.number = x.number ∧ y.state = .closedUnread then { y with state := .closedRead } else y })
          else s.replied r .ok header)))

/-- RECORD_READ (R159, R162): its checks in order, the three parts of a snapshot byte for byte, and CLOSED_READ once part 2 of the
last snapshot has been accepted. What a total above 65535 is sent as is a free value (model choice, note 15). -/
def Obligations.RecordReadReturnsSnapshots : Prop :=
  ∀ (s : State) (r : Request) (rest : List Request), s.asks r rest 0x12 →
    let bit (b : Bool) : Byte := if b then 1 else 0
    let nodeCode (x : NodeState) : Byte :=
      match x with | .absent => 0 | .joining => 1 | .active => 2 | .degraded => 3 | .lost => 4 | .cutOut => 5
    let truck (x : TruckSnap) : List Byte :=
      toBytes 2 x.target ++ toBytes 2 x.output ++ toBytes 2 (x.feedback.getD 65535) ++
        [match x.relief with | .calm => 0 | .hold => 1 | .vent => 2, nodeCode x.node]
    let axle (x : AxleSnap) : List Byte :=
      toBytes 2 x.speed ++
        [match x.validity with | .unknown => 0 | .valid => 1 | .stale => 2 | .faulted => 3,
          match x.slide with | .normal => 0 | .relief => 1 | .hold => 2 | .reapply => 3] ++
        toBytes 2 (x.limit.getD 65535) ++ toBytes 2 (x.ceiling.getD 65535) ++ toBytes 2 x.target ++ toBytes 2 x.output ++
        toBytes 2 (x.achieved.getD 65535) ++ [nodeCode x.node]
    let part0 (x : Snapshot) (wide : BitVec 16) : List Byte :=
      toBytes 4 x.epoch.toNat ++ toBytes 6 x.time.toNat ++
        [match x.kind with | .regular => 0 | .extra => 1,
          match x.demand.mode with | .release => 0 | .dynamicOnly => 1 | .blended => 2 | .airOnly => 3 | .emergency => 4] ++
        toBytes 2 x.demand.level ++ [match x.demand.origin with | .source0 => 0 | .source1 => 1 | .penalty => 2] ++
        toBytes 2 x.demand.floor ++
        [bit x.demand.latch, bit x.fallback, BitVec.ofNat 8 (monitorEntries.map fun m => if x.active[m] then 2 ^ m.val else 0).sum] ++
        toBytes 2 x.refValue ++ [match x.refState with | .invalid => 0 | .valid => 1 | .held => 2] ++ toSigned2 x.estimate ++
        toBytes 2 x.demanded ++ toBytes 2 x.dynamic ++ toBytes 2 x.airTarget ++
        toBytes 2 (if x.airAchieved ≤ 65535 then x.airAchieved else wide.toNat) ++ toBytes 2 x.unplaced ++
        toBytes 2 x.shortfall ++ truck x.trucks[0] ++ truck x.trucks[1]
    let part1 (x : Snapshot) : List Byte := toBytes 4 x.epoch.toNat ++ axle x.axles[0] ++ axle x.axles[1] ++ axle x.axles[2]
    let part2 (x : Snapshot) : List Byte := toBytes 4 x.epoch.toNat ++ axle x.axles[3] ++ axle x.axles[4] ++ axle x.axles[5]
    (r.args.length ≠ 4 → exec .recordRead s = .next (s.replied r .badRequest [])) ∧
    (∀ hi lo index part : Byte, r.args = [hi, lo, index, part] →
      (s.recorder.incidents.find? (fun x => x.number = ofBytes [hi, lo]) = none →
        exec .recordRead s = .next (s.replied r .badIndex [])) ∧
      (∀ x, s.recorder.incidents.find? (fun x => x.number = ofBytes [hi, lo]) = some x →
        (x.state = .opened → exec .recordRead s = .next (s.replied r .notClosed [])) ∧
        (x.state ≠ .opened → x.snaps.length ≤ index.toNat → exec .recordRead s = .next (s.replied r .badIndex [])) ∧
        (∀ y, x.state ≠ .opened → x.snaps[index.toNat]? = some y →
          (2 < part.toNat → exec .recordRead s = .next (s.replied r .badValue [])) ∧
          (part = 0 → ∃ wide, exec .recordRead s = .next ({ s with draws := s.draws + 1 }.replied r .ok (part0 y wide)) ∧
            (part0 y wide).length = 53) ∧
          (part = 1 → exec .recordRead s = .next (s.replied r .ok (part1 y)) ∧ (part1 y).length = 49) ∧
          (part = 2 → (part2 y).length = 49 ∧ exec .recordRead s = .next (
            if index.toNat + 1 = x.snaps.length ∧ (s.port r.port).originated.length < 12 then
              State.popRequest ((s.respond r .ok (part2 y)).setRecorder { s.recorder with
                incidents := s.recorder.incidents.map fun z =>
                  if z.number = x.number ∧ z.state = .closedUnread then { z with state := .closedRead } else z })
            else s.replied r .ok (part2 y))))))

/-- The incident line's commands (R25, R152, R164): an active edge is stamped and starts the debounce timer, an inactive edge
stops it, and its expiry gives the trigger INCIDENT_LINE, which opens an incident in RUN, extends the OPEN one or finds no room as
any trigger does, and is ignored outside RUN. An edge to the level already kept, and a timer that is stopped or not due, change
nothing (model choice, note 2). -/
def Obligations.IncidentLineGivesItsTrigger : Prop :=
  ∀ s : State,
    (s.recorder.lineActive = false → exec .lineActiveEdge s = .next { s with recorder := { s.recorder with
      lineActive := true, edge := some s.time.count
      debounce := some (s.time.count + BitVec.ofNat 48 (s.tables.recorder.debounce * 1000)) } }) ∧
    (s.recorder.lineActive = true → exec .lineActiveEdge s = .next s) ∧
    (s.recorder.lineActive = true → exec .lineInactiveEdge s = .next { s with recorder := { s.recorder with
      lineActive := false, debounce := none } }) ∧
    (s.recorder.lineActive = false → exec .lineInactiveEdge s = .next s) ∧
    (¬ Timer.due s.recorder.debounce s.now → exec .lineDebounceExpiry s = .next s) ∧
    (Timer.due s.recorder.debounce s.now → exec .lineDebounceExpiry s = .next
      (State.trigger .incidentLine { s with recorder := { s.recorder with debounce := none } })) ∧
    (Timer.due s.recorder.debounce s.now →
      s.agent.part ≠ .run ∨ s.tables.recorder.causeMask / 32 % 2 = 0 →
      exec .lineDebounceExpiry s = .next { s with recorder := { s.recorder with debounce := none } }) ∧
    (Timer.due s.recorder.debounce s.now → s.agent.part = .run → s.tables.recorder.causeMask / 32 % 2 = 1 →
      (∀ x ∈ s.recorder.incidents, x.state ≠ .opened) →
      s.recorder.ring.length + s.tables.recorder.post ≤ 1024 - slotsHeld s.recorder.incidents →
      s.recorder.incidents.length < 16 →
      Carried .lineDebounceExpiry s fun t =>
        t.recorder.debounce = none ∧ t.recorder.ring = s.recorder.ring ∧
        t.recorder.incidents = s.recorder.incidents ++
          [{ number := s.recorder.nextNumber, state := .opened, openStamp := s.time.count, closeStamp := none
             causes := [{ cause := .incidentLine, stamp := s.time.count, count := 1 }]
             cutShort := false, truncated := false, moreCauses := false, mark := s.time.mark.copy
             lineStamp := s.recorder.edge, snaps := s.recorder.ring, remaining := s.tables.recorder.post
             reserved := s.recorder.ring.length + s.tables.recorder.post }] ∧
        t.link = s.link ∧ t.blend = s.blend ∧ t.agent = s.agent ∧ t.tables = s.tables)

/-- The incident store keeps within 16 incidents and 1024 slots, with at most one incident OPEN and no number held twice, after
every step (R157, R155). -/
def Obligations.StoreStaysSound : Prop := KeptByEveryStep State.StoreSound

/-- The pre-trigger ring holds consecutive epochs, in RUN at most the depth of them, the last one the last epoch taken, after every
step (R151). -/
def Obligations.RingStaysConsecutive : Prop := KeptByEveryStep State.RingSound

/-! ## Management agent -/

/-- GET_STATE, and a request of an unknown kind (R167, R168). -/
def Obligations.GetStateAndUnknownKinds : Prop :=
  ∀ (s : State) (r : Request) (rest : List Request),
    (s.asks r rest 0x01 → exec .getState s = .next (
      if r.args = [] then
        s.replied r .ok
          (([match s.agent.part with | .pass => 0 | .config => 1 | .run => 2 | .failsafe => 3,
            match s.agent.cause with | .clear => 0 | .management => 1 | .monitor => 2 | .controlLost => 3,
            BitVec.ofNat 8 s.agent.causeEntry, BitVec.ofNat 8 s.agent.lastValidation, s.link.own] : List Byte) ++
            toBytes 4 s.blend.epoch.toNat ++ [BitVec.ofNat 8 rest.length])
      else s.replied r .badRequest [])) ∧
    (s.agent.queue = r :: rest →
      r.kind.toNat ∉ [1, 2, 3, 4, 5, 6, 7, 8, 9, 10, 16, 17, 18, 19, 32, 33, 34, 35, 48, 63] →
      exec .mgmtUnknownKind s = .next (s.replied r .badRequest []))

/-- SET_STATE where it moves between PASS, CONFIG and FAILSAFE, stays, or is refused (R172, Table 11-4): only the part state
changes. -/
def Obligations.SetStateOutsideRun : Prop :=
  ∀ (s : State) (r : Request) (rest : List Request), s.asks r rest 0x02 →
    (r.args.length ≠ 1 → exec .setState s = .next (s.replied r .badRequest [])) ∧
    (∀ b : Byte, r.args = [b] → 3 < b.toNat → exec .setState s = .next (s.replied r .badValue [])) ∧
    (∀ b : Byte, r.args = [b] → b.toNat = s.agent.part.code.toNat → exec .setState s = .next (s.replied r .ok [b])) ∧
    (r.args = [0] → s.agent.part = .config ∨ s.agent.part = .failsafe → exec .setState s = .next
      (State.replied { s with agent := { s.agent with part := .pass } } r .ok [0])) ∧
    (r.args = [1] → s.agent.part = .pass ∨ s.agent.part = .failsafe → exec .setState s = .next
      (State.replied { s with agent := { s.agent with part := .config } } r .ok [1])) ∧
    (r.args = [2] → s.agent.part = .pass ∨ s.agent.part = .failsafe → exec .setState s = .next (s.replied r .locked [])) ∧
    (r.args = [3] → s.agent.part = .pass ∨ s.agent.part = .config → exec .setState s = .next (s.replied r .locked [])) ∧
    (r.args = [0] ∨ r.args = [1] → s.agent.part = .run → ¬ (s.speed.ref.state = .valid ∧ s.speed.ref.value = 0) →
      exec .setState s = .next (s.replied r .locked []))

/-- SET_STATE from CONFIG to RUN (R171, R173): the first check that fails is answered, and the part stays in CONFIG; otherwise every
block takes its RUN-entry values at the present count (R64, R68, R90, R103, R105, R123, R136, R145, R151). -/
def Obligations.RunEntryIsValidated : Prop :=
  ∀ (s : State) (r : Request) (rest : List Request), s.asks r rest 0x02 → r.args = [2] → s.agent.part = .config →
    let v := s.tables.validate
    (v ≠ 0 → exec .setState s = .next
      (State.replied { s with agent := { s.agent with lastValidation := v } } r .badConfig [BitVec.ofNat 8 v])) ∧
    (v = 0 → ∃ u : State, exec .setState s = .next (u.replied r .ok [2]) ∧
      u.agent = { s.agent with part := .run, controlValid := true, lastValidation := 0 } ∧
      u.DemandAtStart (some (s.now + BitVec.ofNat 48 (s.tables.blend.demandLoss * 1000))) ∧
      u.BlendAtStart (some (s.now + BitVec.ofNat 48 (s.tables.blend.period * 1000))) s.now s.speed.ref.value s.speed.ref.state
        s.speed.ref.estimate ∧ u.blend.runEntry = s.now ∧
      u.SlideAtStart ∧ u.NodesAtStart (fun n => if (s.node n).sup.state = .cutOut then .cutOut else .absent) ∧
      u.order.controlLoss = some (s.now + BitVec.ofNat 48 (s.tables.blend.controlLoss * 1000)) ∧
      u.RunsAtStart ∧ u.monitor.events = s.monitor.events ∧ u.recorder = { s.recorder with ring := [] } ∧
      u.link = s.link ∧ u.time = s.time ∧ u.speed = s.speed ∧ u.tables = s.tables ∧ u.draws = s.draws)

/-- Validation (R171, R67, R94, R122): each of the checks C1 to C10, and the result, the number of the first that fails, 0 when all
pass. -/
def Obligations.ValidationNamesTheFirstFailure : Prop :=
  ∀ t : Tables,
    let entry (k : Fin 32) : ClassEntry := t.classify[k]
    let point (k : Nat) : CurvePoint := t.curve.points.toList.getD k ⟨0, 0⟩
    let present (n : NodeSlot) : Prop := t.node[n].present = true
    let stepped (rate : Nat) : Prop := 1000 ≤ rate * t.blend.period
    let passes (check : Nat) : Prop := match check with
      | 1 => ∃ k, (entry k).valid = true ∧ (entry k).role = .demand 0
      | 2 => ∀ k j, k ≠ j → (entry k).valid = true → (entry j).valid = true → (entry k).source = (entry j).source →
          (entry k).kind = (entry j).kind →
          ((entry k).port = .a ∧ (entry j).port = .b) ∨ ((entry k).port = .b ∧ (entry j).port = .a)
      | 3 => (point 0).speed = 0 ∧ ∀ k, k + 1 < min t.curve.count 16 → (point k).speed < (point (k + 1)).speed
      | 4 => ∀ n, present n → t.node[n].response < t.blend.period
      | 5 => stepped t.ramp.application ∧ stepped t.ramp.release ∧ stepped t.ramp.airApplication ∧ stepped t.ramp.airRelease ∧
          (t.ramp.jerk ≠ 0 → stepped t.ramp.jerk)
      | 6 => ∀ k : TruckSlot, t.truck[k].dead < t.truck[k].maximum ∧ t.truck[k].emergency ≤ t.truck[k].maximum
      | 7 => (∀ n m, present n → present m → n ≠ m → t.node[n].address ≠ t.node[m].address) ∧
          ∀ n, present n → ∃ k, (entry k).valid = true ∧ (entry k).role = .report n ∧ (entry k).source = t.node[n].address ∧
            ((entry k).action = .observe ∨ (entry k).action = .consume) ∧ ((entry k).port = .b ∨ (entry k).port = .either)
      | 8 => ∀ i : AxleSlot, t.axle[i].enabled = true →
          ∃ k x y, (entry k).valid = true ∧ (entry k).role = .axleSample x y ∧ x ≤ i ∧ i ≤ y
      | 9 => t.slide.slipRelease < t.slide.slipOnset ∧ ∀ n, present n → t.node[n].degrade < t.node[n].lost
      | _ => t.recorder.depth + t.recorder.post ≤ t.recorder.maximum
    t.validate ≤ 10 ∧ (t.validate = 0 ↔ ∀ k, 1 ≤ k → k ≤ 10 → passes k) ∧
    ∀ k, 1 ≤ k → k ≤ 10 → (t.validate = k ↔ ¬ passes k ∧ ∀ j, 1 ≤ j → j < k → passes j)

/-- SET_STATE out of RUN (R64, R90, R103, R105, R125, R137, R158, R172, R174): to PASS or CONFIG at standstill, and to FAILSAFE with
cause MANAGEMENT. Leaving RUN stops the timers, sets targets, outputs and slopes to 0, returns axles and trucks to rest, abandons every
AWAITING exchange, withdraws every waiting effort order, closes an OPEN incident CUT_SHORT with its unfilled slots returned, and then
offers, in slot order, one release order to each present node that is not cut out, counted as not sent when Port B's queue is full.
That an incident closed CUT_SHORT keeps its remaining post count is a model choice (note 27). -/
def Obligations.LeavingRunBringsRest : Prop :=
  (∀ (s : State) (target : PartState),
    let base := { s with
      agent := { s.agent with part := target, controlValid := false }
      demand := { s.demand with sources := vec2 fun d => { s.demand.sources[d] with timer := none } }
      blend := { s.blend with
        timer := none, axles := vec6 fun _ => { target := 0, output := 0, slope := 0 }
        trucks := vec2 fun _ => { target := 0, output := 0 } }
      slide :=
        { axles := vec6 fun _ =>
            { state := .normal, onset := 0, limit := none, ceiling := none, slip := 0, holdTimer := none, cycles := 0 }
          trucks := vec2 fun _ => { request := .calm, timer := none, lockedOut := false } }
      order :=
        { controlLoss := none
          nodes := vec8 fun n => { s.node n with
            exch := { (s.node n).exch with awaiting := false, deadline := none }
            counts := { (s.node n).counts with
              abandoned := (s.node n).counts.abandoned + (if (s.node n).exch.awaiting then 1 else 0) } } }
      link := { s.link with portB := { s.link.portB with
        originated := s.link.portB.originated.filter fun f => !f.isOrder } }
      recorder := { s.recorder with incidents := s.recorder.incidents.map fun x =>
        if x.state = .opened then
          { x with state := .closedUnread, cutShort := true, closeStamp := some s.now, reserved := x.snaps.length }
        else x } }
    let release (u : State) (n : NodeSlot) : State :=
      if s.tables.node[n].present = true ∧ (s.node n).sup.state ≠ .cutOut then
        (if u.link.portB.originated.length < 12 then
          u.accept .b (.release n) s.tables.node[n].address 0x31 [BitVec.ofNat 8 s.blend.epoch.toNat, 0, 0, 0, 0]
        else u.onNode n fun x => { x with counts := { x.counts with releasesNotSent := x.counts.releasesNotSent + 1 } })
      else u
    s.leaveRun target = ([0, 1, 2, 3, 4, 5, 6, 7] : List NodeSlot).foldl release base) ∧
  (∀ (s : State) (r : Request) (rest : List Request), s.asks r rest 0x02 → s.agent.part = .run →
    let left (u : State) : Prop :=
      u.AtRest ∧ (∀ f ∈ u.link.portB.originated, f.isOrder = false) ∧
      (∀ n : NodeSlot, (u.node n).sup = (s.node n).sup ∧ (u.node n).achieved = (s.node n).achieved) ∧
      u.blend.epoch = s.blend.epoch ∧ u.blend.fallback = s.blend.fallback ∧ u.demand.eff = s.demand.eff ∧
      u.monitor.runs = s.monitor.runs ∧ u.speed = s.speed ∧ u.time = s.time ∧ u.tables = s.tables
    (∀ (b : Byte) (p : PartState), r.args = [b] → (b = 0 ∧ p = .pass) ∨ (b = 1 ∧ p = .config) →
      s.speed.ref.state = .valid → s.speed.ref.value = 0 →
      exec .setState s = .next ((s.leaveRun p).replied r .ok [b]) ∧
      ∃ u : State, exec .setState s = .next (u.replied r .ok [b]) ∧
        u.agent = { s.agent with part := p, controlValid := false } ∧ left u ∧ u.monitor.events = s.monitor.events) ∧
    (r.args = [3] →
      exec .setState s = .next ((s.enterFailsafe .management 0).replied r .ok [3]) ∧
      ∃ u : State, exec .setState s = .next (u.replied r .ok [3]) ∧
        u.agent = { s.agent with part := .failsafe, controlValid := false, cause := .management, causeEntry := 0 } ∧ left u ∧
        u.isPending .failsafeEntered))

/-- READ_STATUS of sections PART and LINK, and of a section that does not exist (R170, R21): the pages byte for byte. Model choices: an
absent section falls to the PART row (note 5); a section above 3 is answered BAD_INDEX whatever follows it, and arguments beyond
those of the rule BAD_REQUEST, and of a page and a clear option that are both too high the page decides (note 21); what stands for an
absent sequence or payload, and for a total above 65535, is a free value (notes 14 and 15). -/
def Obligations.PartAndLinkStatus : Prop :=
  ∀ (s : State) (r : Request) (rest : List Request), s.asks r rest 0x05 →
    let bit (b : Bool) : Byte := if b then 1 else 0
    let modeCode (m : Mode) : Byte :=
      match m with | .release => 0 | .dynamicOnly => 1 | .blended => 2 | .airOnly => 3 | .emergency => 4
    let reliefCode (x : Relief) : Byte := match x with | .calm => 0 | .hold => 1 | .vent => 2
    let source (x : SourceRec) (noSeq : Byte) (noPayload : BitVec 40) : List Byte :=
      [match x.state with | .never => 0 | .current => 1 | .lost => 2, bit x.seq.isSome, x.seq.getD noSeq, bit x.payload.isSome] ++
        (match x.payload with
          | none => toBytes 5 noPayload.toNat
          | some p => modeCode p.mode :: (toBytes 2 p.level ++ toBytes 2 p.floor)) ++ toBytes 6 x.stamp.toNat
    let page0 (q0 q1 : Byte) (w0 w1 : BitVec 40) : List Byte :=
      [match s.agent.part with | .pass => 0 | .config => 1 | .run => 2 | .failsafe => 3,
        match s.agent.cause with | .clear => 0 | .management => 1 | .monitor => 2 | .controlLost => 3,
        BitVec.ofNat 8 s.agent.causeEntry] ++ source s.demand.sources[0] q0 w0 ++ source s.demand.sources[1] q1 w1 ++
        [modeCode s.demand.eff.mode] ++ toBytes 2 s.demand.eff.level ++ toBytes 2 s.demand.eff.floor ++
        [match s.demand.eff.origin with | .source0 => 0 | .source1 => 1 | .penalty => 2, bit s.demand.eff.latch, bit s.blend.fallback]
    let p := s.blend.pub
    let total (v : Nat) (wide : BitVec 16) : List Byte := toBytes 2 (if v ≤ 65535 then v else wide.toNat)
    let page1 (a d : BitVec 16) : List Byte :=
      toBytes 4 p.epoch.toNat ++ toBytes 6 p.time.toNat ++
        [match p.kind with | .regular => 0 | .extra => 1, BitVec.ofNat 8 p.interval] ++
        toBytes 2 p.totals.demanded ++ toBytes 2 p.totals.dynamic ++ toBytes 2 p.totals.airTarget ++
        total p.totals.airAchieved a ++ toBytes 2 p.totals.unplaced ++ total p.totals.dynamicAchieved d ++
        toBytes 2 p.totals.shortfall ++ ([0, 1] : List TruckSlot).flatMap fun k =>
          toBytes 2 p.trucks[k].target ++ toBytes 2 p.trucks[k].output ++ [reliefCode p.trucks[k].relief]
    let page2 : List Byte :=
      (axleSlots.flatMap fun i =>
        let a := s.slide.axles[i]
        [(match a.state with | .normal => 0 | .relief => 1 | .hold => 2 | .reapply => 3 : Byte)] ++ toBytes 2 (a.limit.getD 65535) ++
          toBytes 2 (a.ceiling.getD 65535) ++ [BitVec.ofNat 8 a.cycles]) ++
        ([0, 1] : List TruckSlot).flatMap fun k => [reliefCode s.slide.trucks[k].request, bit s.slide.trucks[k].lockedOut]
    let page3 : List Byte := monitorEntries.flatMap fun m =>
      [bit s.monitor.runs[m].active, BitVec.ofNat 8 s.monitor.runs[m].count,
        match s.monitor.runs[m].side with | .unknown => 0 | .low => 1 | .high => 2]
    (r.args = [] → exec .readStatusPart s = .next (s.replied r .badRequest [])) ∧
    (∀ (b : Byte) tail, r.args = b :: tail → 3 < b.toNat → exec .readStatusPart s = .next (s.replied r .badIndex [])) ∧
    (∀ tail, r.args = 0 :: tail → tail.length ≠ 1 → exec .readStatusPart s = .next (s.replied r .badRequest [])) ∧
    (∀ page : Byte, r.args = [0, page] →
      let served (data : List Byte) : Prop := exec .readStatusPart s = .next (s.replied r .ok data)
      let drawn (data : List Byte) : Prop := exec .readStatusPart s = .next ({ s with draws := s.draws + 2 }.replied r .ok data)
      (3 < page.toNat → exec .readStatusPart s = .next (s.replied r .badIndex [])) ∧
      (page = 0 → ∃ q0 q1 w0 w1, drawn (page0 q0 q1 w0 w1) ∧ (page0 q0 q1 w0 w1).length = 41) ∧
      (page = 1 → ∃ a d, drawn (page1 a d) ∧ (page1 a d).length = 36) ∧
      (page = 2 → served page2 ∧ page2.length = 40) ∧ (page = 3 → served page3 ∧ page3.length = 24)) ∧
    (∀ tail, r.args = 2 :: tail → tail.length ≠ 2 → exec .readStatusLink s = .next (s.replied r .badRequest [])) ∧
    (∀ clear page : Byte, r.args = [2, clear, page] → page.toNat ≤ 1 → 1 < clear.toNat →
      exec .readStatusLink s = .next (s.replied r .badValue [])) ∧
    (∀ clear page : Byte, r.args = [2, clear, page] → 1 < page.toNat →
      exec .readStatusLink s = .next (s.replied r .badIndex [])) ∧
    (∀ clear page : Byte, r.args = [2, clear, page] → clear.toNat ≤ 1 → page.toNat ≤ 1 →
      let per (x : PortState) : List Counter := [x.good, x.badCheck, x.badForm, x.overflow, x.transmitted]
      let counters := if page = 0 then per s.link.portA ++ per s.link.portB
        else [s.link.unclaimed, s.link.demandRefused, s.link.sampleRefused, s.link.reportsRefused, s.link.responsesDropped]
      let zero (x : PortState) : PortState := { x with good := 0, badCheck := 0, badForm := 0, overflow := 0, transmitted := 0 }
      exec .readStatusLink s = .next (State.replied
        (if clear = 0 then s
          else { s with link := { s.link with
            portA := zero s.link.portA, portB := zero s.link.portB, unclaimed := 0, demandRefused := 0, sampleRefused := 0
            reportsRefused := 0, responsesDropped := 0 } })
        r .ok (counters.flatMap fun c => toBytes 4 c.toNat)))

/-- RESET (R176, R22, R35, R36, R46, R54, R90, R105, R123, R145, R158): refused with arguments and in RUN; otherwise its response is
offered and every block takes its soft-reset values, while tables, count, corrector, incident store, CUT_OUT states, receptions under
way, and the line's level and edge are kept. Of a port with an IDLE line only an empty one has a clause, since an IDLE line has nothing
to send (R19). The RUN entry time, to which no rule gives a value here, has none (note 18). -/
def Obligations.ResetKeepsWhatItMust : Prop :=
  ∀ (s : State) (r : Request) (rest : List Request), s.asks r rest 0x3F →
    (r.args ≠ [] → exec .reset s = .next (s.replied r .badRequest [])) ∧
    (r.args = [] → s.agent.part = .run → exec .reset s = .next (s.replied r .locked [])) ∧
    (r.args = [] → s.agent.part ≠ .run → Carried .reset s fun t =>
      let f := buildFrame r.source s.link.own 0x52 s.link.txSeq [0x3F, r.id, 0]
      t.agent = { part := .pass, controlValid := false, cause := .clear, causeEntry := 0, lastValidation := 0, queue := [] } ∧
      t.link.own = s.link.own ∧ t.link.txSeq = 0 ∧ t.link.CountersZero ∧
      (∀ p, (t.port p).forward = [] ∧ (t.port p).run = 0 ∧ (t.port p).rx = (s.port p).rx) ∧
      (t.port (otherPort r.port)).originated = [] ∧ (t.port (otherPort r.port)).line = (s.port (otherPort r.port)).line ∧
      ((s.port r.port).line ≠ .idle → (t.port r.port).line = (s.port r.port).line ∧
        (t.port r.port).originated =
          (if (s.port r.port).originated.length < 12 then [⟨.response, f⟩] else [])) ∧
      ((s.port r.port).line = .idle → (s.port r.port).forward = [] → (s.port r.port).originated = [] →
        (t.port r.port).line = .sending f ∧ (t.port r.port).originated = []) ∧
      t.time = { s.time with mark := { state := .empty, number := 0, master := 0, stamp := 0, discards := 0 } } ∧
      t.SpeedAtStart ∧ t.DemandAtStart none ∧ t.BlendAtStart none 0 0 .invalid 0 ∧ t.SlideAtStart ∧
      t.NodesAtStart (fun n => if (s.node n).sup.state = .cutOut then .cutOut else .absent) ∧ t.order.controlLoss = none ∧
      t.RunsAtStart ∧ t.monitor.events = [] ∧ t.recorder = { s.recorder with ring := [], debounce := none } ∧
      t.tables = s.tables ∧ t.draws = s.draws)

/-! ## Invariants of the whole part -/

/-- Outside RUN no effort is commanded, no timer of a block that runs in RUN runs, no exchange waits and no incident is OPEN; and the
control-valid line is active exactly in RUN; after every step (R64, R90, R103, R105, R137, R158, R174). -/
def Obligations.PartRestsOutsideRun : Prop :=
  KeptByEveryStep fun s => s.RestsOutsideRun ∧ s.controlLineRight

/-- The queues and run counts keep their bounds, and an IDLE line has nothing to send, after every step (R17, R18, R19, R166). -/
def Obligations.QueuesStayBounded : Prop := KeptByEveryStep State.QueuesBounded

/-- Every invariant holds right after reset. -/
def Obligations.InvariantsHoldAtReset : Prop :=
  let s := State.reset
  s.DemandSound ∧ s.SlideSound ∧ s.OutcomesBalanced ∧ s.EventsDistinct ∧ s.StoreSound ∧ s.RingSound ∧
    s.RestsOutsideRun ∧ s.controlLineRight ∧ s.QueuesBounded
end

