-- ==== Sys2Proof/Laws/State.lean ====
section
/-! SUPPORT. What an update of one block's record leaves alone, and what it writes: one conjunction per update, true by rfl, so that
no later proof unfolds a record update. -/

namespace Sys2Proof.Machine

/-! ## Updates of one block leave the other blocks alone -/

@[simp] theorem State.onPort_keeps (p : Port) (f : PortState → PortState) (s : State) :
    (s.onPort p f).time = s.time ∧ (s.onPort p f).speed = s.speed ∧ (s.onPort p f).demand = s.demand ∧
    (s.onPort p f).blend = s.blend ∧ (s.onPort p f).slide = s.slide ∧ (s.onPort p f).order = s.order ∧
    (s.onPort p f).monitor = s.monitor ∧ (s.onPort p f).recorder = s.recorder ∧ (s.onPort p f).agent = s.agent ∧
    (s.onPort p f).tables = s.tables ∧ (s.onPort p f).pending = s.pending ∧ (s.onPort p f).draws = s.draws :=
  ⟨rfl, rfl, rfl, rfl, rfl, rfl, rfl, rfl, rfl, rfl, rfl, rfl⟩

@[simp] theorem State.countGood_keeps (p : Port) (s : State) :
    (s.countGood p).time = s.time ∧ (s.countGood p).speed = s.speed ∧ (s.countGood p).demand = s.demand ∧
    (s.countGood p).blend = s.blend ∧ (s.countGood p).slide = s.slide ∧ (s.countGood p).order = s.order ∧
    (s.countGood p).monitor = s.monitor ∧ (s.countGood p).recorder = s.recorder ∧ (s.countGood p).agent = s.agent ∧
    (s.countGood p).tables = s.tables ∧ (s.countGood p).pending = s.pending ∧ (s.countGood p).draws = s.draws :=
  ⟨rfl, rfl, rfl, rfl, rfl, rfl, rfl, rfl, rfl, rfl, rfl, rfl⟩

@[simp] theorem State.countBadForm_keeps (p : Port) (s : State) :
    (s.countBadForm p).time = s.time ∧ (s.countBadForm p).speed = s.speed ∧ (s.countBadForm p).demand = s.demand ∧
    (s.countBadForm p).blend = s.blend ∧ (s.countBadForm p).slide = s.slide ∧ (s.countBadForm p).order = s.order ∧
    (s.countBadForm p).monitor = s.monitor ∧ (s.countBadForm p).recorder = s.recorder ∧
    (s.countBadForm p).agent = s.agent ∧ (s.countBadForm p).tables = s.tables ∧
    (s.countBadForm p).pending = s.pending ∧ (s.countBadForm p).draws = s.draws :=
  ⟨rfl, rfl, rfl, rfl, rfl, rfl, rfl, rfl, rfl, rfl, rfl, rfl⟩

@[simp] theorem State.countBadCheck_keeps (p : Port) (s : State) :
    (s.countBadCheck p).time = s.time ∧ (s.countBadCheck p).speed = s.speed ∧ (s.countBadCheck p).demand = s.demand ∧
    (s.countBadCheck p).blend = s.blend ∧ (s.countBadCheck p).slide = s.slide ∧ (s.countBadCheck p).order = s.order ∧
    (s.countBadCheck p).monitor = s.monitor ∧ (s.countBadCheck p).recorder = s.recorder ∧
    (s.countBadCheck p).agent = s.agent ∧ (s.countBadCheck p).tables = s.tables ∧
    (s.countBadCheck p).pending = s.pending ∧ (s.countBadCheck p).draws = s.draws :=
  ⟨rfl, rfl, rfl, rfl, rfl, rfl, rfl, rfl, rfl, rfl, rfl, rfl⟩

@[simp] theorem State.countOverflow_keeps (p : Port) (s : State) :
    (s.countOverflow p).time = s.time ∧ (s.countOverflow p).speed = s.speed ∧ (s.countOverflow p).demand = s.demand ∧
    (s.countOverflow p).blend = s.blend ∧ (s.countOverflow p).slide = s.slide ∧ (s.countOverflow p).order = s.order ∧
    (s.countOverflow p).monitor = s.monitor ∧ (s.countOverflow p).recorder = s.recorder ∧
    (s.countOverflow p).agent = s.agent ∧ (s.countOverflow p).tables = s.tables ∧
    (s.countOverflow p).pending = s.pending ∧ (s.countOverflow p).draws = s.draws :=
  ⟨rfl, rfl, rfl, rfl, rfl, rfl, rfl, rfl, rfl, rfl, rfl, rfl⟩

@[simp] theorem State.countUnclaimed_keeps (s : State) :
    (s.countUnclaimed).time = s.time ∧ (s.countUnclaimed).speed = s.speed ∧ (s.countUnclaimed).demand = s.demand ∧
    (s.countUnclaimed).blend = s.blend ∧ (s.countUnclaimed).slide = s.slide ∧ (s.countUnclaimed).order = s.order ∧
    (s.countUnclaimed).monitor = s.monitor ∧ (s.countUnclaimed).recorder = s.recorder ∧
    (s.countUnclaimed).agent = s.agent ∧ (s.countUnclaimed).tables = s.tables ∧
    (s.countUnclaimed).pending = s.pending ∧ (s.countUnclaimed).draws = s.draws :=
  ⟨rfl, rfl, rfl, rfl, rfl, rfl, rfl, rfl, rfl, rfl, rfl, rfl⟩

@[simp] theorem State.countDemandRefused_keeps (s : State) :
    (s.countDemandRefused).time = s.time ∧ (s.countDemandRefused).speed = s.speed ∧
    (s.countDemandRefused).demand = s.demand ∧ (s.countDemandRefused).blend = s.blend ∧
    (s.countDemandRefused).slide = s.slide ∧ (s.countDemandRefused).order = s.order ∧
    (s.countDemandRefused).monitor = s.monitor ∧ (s.countDemandRefused).recorder = s.recorder ∧
    (s.countDemandRefused).agent = s.agent ∧ (s.countDemandRefused).tables = s.tables ∧
    (s.countDemandRefused).pending = s.pending ∧ (s.countDemandRefused).draws = s.draws :=
  ⟨rfl, rfl, rfl, rfl, rfl, rfl, rfl, rfl, rfl, rfl, rfl, rfl⟩

@[simp] theorem State.countSampleRefused_keeps (s : State) :
    (s.countSampleRefused).time = s.time ∧ (s.countSampleRefused).speed = s.speed ∧
    (s.countSampleRefused).demand = s.demand ∧ (s.countSampleRefused).blend = s.blend ∧
    (s.countSampleRefused).slide = s.slide ∧ (s.countSampleRefused).order = s.order ∧
    (s.countSampleRefused).monitor = s.monitor ∧ (s.countSampleRefused).recorder = s.recorder ∧
    (s.countSampleRefused).agent = s.agent ∧ (s.countSampleRefused).tables = s.tables ∧
    (s.countSampleRefused).pending = s.pending ∧ (s.countSampleRefused).draws = s.draws :=
  ⟨rfl, rfl, rfl, rfl, rfl, rfl, rfl, rfl, rfl, rfl, rfl, rfl⟩

@[simp] theorem State.countReportRefused_keeps (s : State) :
    (s.countReportRefused).time = s.time ∧ (s.countReportRefused).speed = s.speed ∧
    (s.countReportRefused).demand = s.demand ∧ (s.countReportRefused).blend = s.blend ∧
    (s.countReportRefused).slide = s.slide ∧ (s.countReportRefused).order = s.order ∧
    (s.countReportRefused).monitor = s.monitor ∧ (s.countReportRefused).recorder = s.recorder ∧
    (s.countReportRefused).agent = s.agent ∧ (s.countReportRefused).tables = s.tables ∧
    (s.countReportRefused).pending = s.pending ∧ (s.countReportRefused).draws = s.draws :=
  ⟨rfl, rfl, rfl, rfl, rfl, rfl, rfl, rfl, rfl, rfl, rfl, rfl⟩

@[simp] theorem State.countResponseDropped_keeps (s : State) :
    (s.countResponseDropped).time = s.time ∧ (s.countResponseDropped).speed = s.speed ∧
    (s.countResponseDropped).demand = s.demand ∧ (s.countResponseDropped).blend = s.blend ∧
    (s.countResponseDropped).slide = s.slide ∧ (s.countResponseDropped).order = s.order ∧
    (s.countResponseDropped).monitor = s.monitor ∧ (s.countResponseDropped).recorder = s.recorder ∧
    (s.countResponseDropped).agent = s.agent ∧ (s.countResponseDropped).tables = s.tables ∧
    (s.countResponseDropped).pending = s.pending ∧ (s.countResponseDropped).draws = s.draws :=
  ⟨rfl, rfl, rfl, rfl, rfl, rfl, rfl, rfl, rfl, rfl, rfl, rfl⟩

@[simp] theorem State.clearLinkCounters_keeps (s : State) :
    (s.clearLinkCounters).time = s.time ∧ (s.clearLinkCounters).speed = s.speed ∧
    (s.clearLinkCounters).demand = s.demand ∧ (s.clearLinkCounters).blend = s.blend ∧
    (s.clearLinkCounters).slide = s.slide ∧ (s.clearLinkCounters).order = s.order ∧
    (s.clearLinkCounters).monitor = s.monitor ∧ (s.clearLinkCounters).recorder = s.recorder ∧
    (s.clearLinkCounters).agent = s.agent ∧ (s.clearLinkCounters).tables = s.tables ∧
    (s.clearLinkCounters).pending = s.pending ∧ (s.clearLinkCounters).draws = s.draws :=
  ⟨rfl, rfl, rfl, rfl, rfl, rfl, rfl, rfl, rfl, rfl, rfl, rfl⟩

@[simp] theorem State.withdrawAll_keeps (s : State) :
    (s.withdrawAll).time = s.time ∧ (s.withdrawAll).speed = s.speed ∧ (s.withdrawAll).demand = s.demand ∧
    (s.withdrawAll).blend = s.blend ∧ (s.withdrawAll).slide = s.slide ∧ (s.withdrawAll).order = s.order ∧
    (s.withdrawAll).monitor = s.monitor ∧ (s.withdrawAll).recorder = s.recorder ∧ (s.withdrawAll).agent = s.agent ∧
    (s.withdrawAll).tables = s.tables ∧ (s.withdrawAll).pending = s.pending ∧ (s.withdrawAll).draws = s.draws :=
  ⟨rfl, rfl, rfl, rfl, rfl, rfl, rfl, rfl, rfl, rfl, rfl, rfl⟩

@[simp] theorem State.accept_keeps (p : Port) (o : Origin) (d k : Byte) (b : List Byte) (s : State) :
    (s.accept p o d k b).time = s.time ∧ (s.accept p o d k b).speed = s.speed ∧
    (s.accept p o d k b).demand = s.demand ∧ (s.accept p o d k b).blend = s.blend ∧
    (s.accept p o d k b).slide = s.slide ∧ (s.accept p o d k b).order = s.order ∧
    (s.accept p o d k b).monitor = s.monitor ∧ (s.accept p o d k b).recorder = s.recorder ∧
    (s.accept p o d k b).agent = s.agent ∧ (s.accept p o d k b).tables = s.tables ∧
    (s.accept p o d k b).pending = s.pending ∧ (s.accept p o d k b).draws = s.draws :=
  ⟨rfl, rfl, rfl, rfl, rfl, rfl, rfl, rfl, rfl, rfl, rfl, rfl⟩

@[simp] theorem State.keepOriginated_keeps (f : List OrigFrame → List OrigFrame) (s : State) :
    (s.keepOriginated f).time = s.time ∧ (s.keepOriginated f).speed = s.speed ∧
    (s.keepOriginated f).demand = s.demand ∧ (s.keepOriginated f).blend = s.blend ∧
    (s.keepOriginated f).slide = s.slide ∧ (s.keepOriginated f).order = s.order ∧
    (s.keepOriginated f).monitor = s.monitor ∧ (s.keepOriginated f).recorder = s.recorder ∧
    (s.keepOriginated f).agent = s.agent ∧ (s.keepOriginated f).tables = s.tables ∧
    (s.keepOriginated f).pending = s.pending ∧ (s.keepOriginated f).draws = s.draws :=
  ⟨rfl, rfl, rfl, rfl, rfl, rfl, rfl, rfl, rfl, rfl, rfl, rfl⟩

@[simp] theorem State.withdrawNode_keeps (n : NodeSlot) (s : State) :
    (s.withdrawNode n).time = s.time ∧ (s.withdrawNode n).speed = s.speed ∧ (s.withdrawNode n).demand = s.demand ∧
    (s.withdrawNode n).blend = s.blend ∧ (s.withdrawNode n).slide = s.slide ∧ (s.withdrawNode n).order = s.order ∧
    (s.withdrawNode n).monitor = s.monitor ∧ (s.withdrawNode n).recorder = s.recorder ∧
    (s.withdrawNode n).agent = s.agent ∧ (s.withdrawNode n).tables = s.tables ∧
    (s.withdrawNode n).pending = s.pending ∧ (s.withdrawNode n).draws = s.draws :=
  ⟨rfl, rfl, rfl, rfl, rfl, rfl, rfl, rfl, rfl, rfl, rfl, rfl⟩

@[simp] theorem State.withdrawNewest_keeps (n : NodeSlot) (s : State) :
    (s.withdrawNewest n).time = s.time ∧ (s.withdrawNewest n).speed = s.speed ∧
    (s.withdrawNewest n).demand = s.demand ∧ (s.withdrawNewest n).blend = s.blend ∧
    (s.withdrawNewest n).slide = s.slide ∧ (s.withdrawNewest n).order = s.order ∧
    (s.withdrawNewest n).monitor = s.monitor ∧ (s.withdrawNewest n).recorder = s.recorder ∧
    (s.withdrawNewest n).agent = s.agent ∧ (s.withdrawNewest n).tables = s.tables ∧
    (s.withdrawNewest n).pending = s.pending ∧ (s.withdrawNewest n).draws = s.draws :=
  ⟨rfl, rfl, rfl, rfl, rfl, rfl, rfl, rfl, rfl, rfl, rfl, rfl⟩

@[simp] theorem State.placeForward_keeps (p : Port) (f : Frame) (s : State) :
    (s.placeForward p f).time = s.time ∧ (s.placeForward p f).speed = s.speed ∧
    (s.placeForward p f).demand = s.demand ∧ (s.placeForward p f).blend = s.blend ∧
    (s.placeForward p f).slide = s.slide ∧ (s.placeForward p f).order = s.order ∧
    (s.placeForward p f).monitor = s.monitor ∧ (s.placeForward p f).recorder = s.recorder ∧
    (s.placeForward p f).agent = s.agent ∧ (s.placeForward p f).tables = s.tables ∧
    (s.placeForward p f).pending = s.pending ∧ (s.placeForward p f).draws = s.draws :=
  ⟨rfl, rfl, rfl, rfl, rfl, rfl, rfl, rfl, rfl, rfl, rfl, rfl⟩

@[simp] theorem State.endReception_keeps (p : Port) (s : State) :
    (s.endReception p).time = s.time ∧ (s.endReception p).speed = s.speed ∧ (s.endReception p).demand = s.demand ∧
    (s.endReception p).blend = s.blend ∧ (s.endReception p).slide = s.slide ∧ (s.endReception p).order = s.order ∧
    (s.endReception p).monitor = s.monitor ∧ (s.endReception p).recorder = s.recorder ∧
    (s.endReception p).agent = s.agent ∧ (s.endReception p).tables = s.tables ∧
    (s.endReception p).pending = s.pending ∧ (s.endReception p).draws = s.draws :=
  ⟨rfl, rfl, rfl, rfl, rfl, rfl, rfl, rfl, rfl, rfl, rfl, rfl⟩

@[simp] theorem State.onAxleSpeed_keeps (i : AxleSlot) (f : AxleSpeed → AxleSpeed) (s : State) :
    (s.onAxleSpeed i f).link = s.link ∧ (s.onAxleSpeed i f).time = s.time ∧ (s.onAxleSpeed i f).demand = s.demand ∧
    (s.onAxleSpeed i f).blend = s.blend ∧ (s.onAxleSpeed i f).slide = s.slide ∧ (s.onAxleSpeed i f).order = s.order ∧
    (s.onAxleSpeed i f).monitor = s.monitor ∧ (s.onAxleSpeed i f).recorder = s.recorder ∧
    (s.onAxleSpeed i f).agent = s.agent ∧ (s.onAxleSpeed i f).tables = s.tables ∧
    (s.onAxleSpeed i f).pending = s.pending ∧ (s.onAxleSpeed i f).draws = s.draws :=
  ⟨rfl, rfl, rfl, rfl, rfl, rfl, rfl, rfl, rfl, rfl, rfl, rfl⟩

@[simp] theorem State.setRef_keeps (r : RefRecord) (s : State) :
    (s.setRef r).link = s.link ∧ (s.setRef r).time = s.time ∧ (s.setRef r).demand = s.demand ∧
    (s.setRef r).blend = s.blend ∧ (s.setRef r).slide = s.slide ∧ (s.setRef r).order = s.order ∧
    (s.setRef r).monitor = s.monitor ∧ (s.setRef r).recorder = s.recorder ∧ (s.setRef r).agent = s.agent ∧
    (s.setRef r).tables = s.tables ∧ (s.setRef r).pending = s.pending ∧ (s.setRef r).draws = s.draws :=
  ⟨rfl, rfl, rfl, rfl, rfl, rfl, rfl, rfl, rfl, rfl, rfl, rfl⟩

@[simp] theorem State.onAxleSlide_keeps (i : AxleSlot) (f : AxleSlide → AxleSlide) (s : State) :
    (s.onAxleSlide i f).link = s.link ∧ (s.onAxleSlide i f).time = s.time ∧ (s.onAxleSlide i f).speed = s.speed ∧
    (s.onAxleSlide i f).demand = s.demand ∧ (s.onAxleSlide i f).blend = s.blend ∧
    (s.onAxleSlide i f).order = s.order ∧ (s.onAxleSlide i f).monitor = s.monitor ∧
    (s.onAxleSlide i f).recorder = s.recorder ∧ (s.onAxleSlide i f).agent = s.agent ∧
    (s.onAxleSlide i f).tables = s.tables ∧ (s.onAxleSlide i f).pending = s.pending ∧
    (s.onAxleSlide i f).draws = s.draws :=
  ⟨rfl, rfl, rfl, rfl, rfl, rfl, rfl, rfl, rfl, rfl, rfl, rfl⟩

@[simp] theorem State.onTruckSlide_keeps (t : TruckSlot) (f : TruckSlide → TruckSlide) (s : State) :
    (s.onTruckSlide t f).link = s.link ∧ (s.onTruckSlide t f).time = s.time ∧ (s.onTruckSlide t f).speed = s.speed ∧
    (s.onTruckSlide t f).demand = s.demand ∧ (s.onTruckSlide t f).blend = s.blend ∧
    (s.onTruckSlide t f).order = s.order ∧ (s.onTruckSlide t f).monitor = s.monitor ∧
    (s.onTruckSlide t f).recorder = s.recorder ∧ (s.onTruckSlide t f).agent = s.agent ∧
    (s.onTruckSlide t f).tables = s.tables ∧ (s.onTruckSlide t f).pending = s.pending ∧
    (s.onTruckSlide t f).draws = s.draws :=
  ⟨rfl, rfl, rfl, rfl, rfl, rfl, rfl, rfl, rfl, rfl, rfl, rfl⟩

@[simp] theorem State.restAxle_keeps (i : AxleSlot) (s : State) :
    (s.restAxle i).link = s.link ∧ (s.restAxle i).time = s.time ∧ (s.restAxle i).speed = s.speed ∧
    (s.restAxle i).demand = s.demand ∧ (s.restAxle i).blend = s.blend ∧ (s.restAxle i).order = s.order ∧
    (s.restAxle i).monitor = s.monitor ∧ (s.restAxle i).recorder = s.recorder ∧ (s.restAxle i).agent = s.agent ∧
    (s.restAxle i).tables = s.tables ∧ (s.restAxle i).pending = s.pending ∧ (s.restAxle i).draws = s.draws :=
  ⟨rfl, rfl, rfl, rfl, rfl, rfl, rfl, rfl, rfl, rfl, rfl, rfl⟩

@[simp] theorem State.storeSlip_keeps (g : GoodEntry) (s : State) :
    (s.storeSlip g).link = s.link ∧ (s.storeSlip g).time = s.time ∧ (s.storeSlip g).speed = s.speed ∧
    (s.storeSlip g).demand = s.demand ∧ (s.storeSlip g).blend = s.blend ∧ (s.storeSlip g).order = s.order ∧
    (s.storeSlip g).monitor = s.monitor ∧ (s.storeSlip g).recorder = s.recorder ∧ (s.storeSlip g).agent = s.agent ∧
    (s.storeSlip g).tables = s.tables ∧ (s.storeSlip g).pending = s.pending ∧ (s.storeSlip g).draws = s.draws :=
  ⟨rfl, rfl, rfl, rfl, rfl, rfl, rfl, rfl, rfl, rfl, rfl, rfl⟩

@[simp] theorem State.formRelief_keeps (s : State) :
    (s.formRelief).link = s.link ∧ (s.formRelief).time = s.time ∧ (s.formRelief).speed = s.speed ∧
    (s.formRelief).demand = s.demand ∧ (s.formRelief).blend = s.blend ∧ (s.formRelief).order = s.order ∧
    (s.formRelief).monitor = s.monitor ∧ (s.formRelief).recorder = s.recorder ∧ (s.formRelief).agent = s.agent ∧
    (s.formRelief).tables = s.tables ∧ (s.formRelief).pending = s.pending ∧ (s.formRelief).draws = s.draws :=
  ⟨rfl, rfl, rfl, rfl, rfl, rfl, rfl, rfl, rfl, rfl, rfl, rfl⟩

@[simp] theorem State.onSource_keeps (d : SourceSlot) (f : SourceRec → SourceRec) (s : State) :
    (s.onSource d f).link = s.link ∧ (s.onSource d f).time = s.time ∧ (s.onSource d f).speed = s.speed ∧
    (s.onSource d f).blend = s.blend ∧ (s.onSource d f).slide = s.slide ∧ (s.onSource d f).order = s.order ∧
    (s.onSource d f).monitor = s.monitor ∧ (s.onSource d f).recorder = s.recorder ∧
    (s.onSource d f).agent = s.agent ∧ (s.onSource d f).tables = s.tables ∧ (s.onSource d f).pending = s.pending ∧
    (s.onSource d f).draws = s.draws :=
  ⟨rfl, rfl, rfl, rfl, rfl, rfl, rfl, rfl, rfl, rfl, rfl, rfl⟩

@[simp] theorem State.setEff_keeps (e : EffDemand) (s : State) :
    (s.setEff e).link = s.link ∧ (s.setEff e).time = s.time ∧ (s.setEff e).speed = s.speed ∧
    (s.setEff e).blend = s.blend ∧ (s.setEff e).slide = s.slide ∧ (s.setEff e).order = s.order ∧
    (s.setEff e).monitor = s.monitor ∧ (s.setEff e).recorder = s.recorder ∧ (s.setEff e).agent = s.agent ∧
    (s.setEff e).tables = s.tables ∧ (s.setEff e).pending = s.pending ∧ (s.setEff e).draws = s.draws :=
  ⟨rfl, rfl, rfl, rfl, rfl, rfl, rfl, rfl, rfl, rfl, rfl, rfl⟩

@[simp] theorem State.onNode_keeps (n : NodeSlot) (f : NodeRec → NodeRec) (s : State) :
    (s.onNode n f).link = s.link ∧ (s.onNode n f).time = s.time ∧ (s.onNode n f).speed = s.speed ∧
    (s.onNode n f).demand = s.demand ∧ (s.onNode n f).blend = s.blend ∧ (s.onNode n f).slide = s.slide ∧
    (s.onNode n f).monitor = s.monitor ∧ (s.onNode n f).recorder = s.recorder ∧ (s.onNode n f).agent = s.agent ∧
    (s.onNode n f).tables = s.tables ∧ (s.onNode n f).pending = s.pending ∧ (s.onNode n f).draws = s.draws :=
  ⟨rfl, rfl, rfl, rfl, rfl, rfl, rfl, rfl, rfl, rfl, rfl, rfl⟩

@[simp] theorem State.setRun_keeps (m : Fin 8) (r : RunState) (s : State) :
    (s.setRun m r).link = s.link ∧ (s.setRun m r).time = s.time ∧ (s.setRun m r).speed = s.speed ∧
    (s.setRun m r).demand = s.demand ∧ (s.setRun m r).blend = s.blend ∧ (s.setRun m r).slide = s.slide ∧
    (s.setRun m r).order = s.order ∧ (s.setRun m r).recorder = s.recorder ∧ (s.setRun m r).agent = s.agent ∧
    (s.setRun m r).tables = s.tables ∧ (s.setRun m r).pending = s.pending ∧ (s.setRun m r).draws = s.draws :=
  ⟨rfl, rfl, rfl, rfl, rfl, rfl, rfl, rfl, rfl, rfl, rfl, rfl⟩

@[simp] theorem State.setEvents_keeps (es : List PendingEvent) (s : State) :
    (s.setEvents es).link = s.link ∧ (s.setEvents es).time = s.time ∧ (s.setEvents es).speed = s.speed ∧
    (s.setEvents es).demand = s.demand ∧ (s.setEvents es).blend = s.blend ∧ (s.setEvents es).slide = s.slide ∧
    (s.setEvents es).order = s.order ∧ (s.setEvents es).recorder = s.recorder ∧ (s.setEvents es).agent = s.agent ∧
    (s.setEvents es).tables = s.tables ∧ (s.setEvents es).pending = s.pending ∧ (s.setEvents es).draws = s.draws :=
  ⟨rfl, rfl, rfl, rfl, rfl, rfl, rfl, rfl, rfl, rfl, rfl, rfl⟩

@[simp] theorem State.setRecorder_keeps (r : RecorderBlock) (s : State) :
    (s.setRecorder r).link = s.link ∧ (s.setRecorder r).time = s.time ∧ (s.setRecorder r).speed = s.speed ∧
    (s.setRecorder r).demand = s.demand ∧ (s.setRecorder r).blend = s.blend ∧ (s.setRecorder r).slide = s.slide ∧
    (s.setRecorder r).order = s.order ∧ (s.setRecorder r).monitor = s.monitor ∧ (s.setRecorder r).agent = s.agent ∧
    (s.setRecorder r).tables = s.tables ∧ (s.setRecorder r).pending = s.pending ∧ (s.setRecorder r).draws = s.draws :=
  ⟨rfl, rfl, rfl, rfl, rfl, rfl, rfl, rfl, rfl, rfl, rfl, rfl⟩

@[simp] theorem State.drawn_keeps (s : State) :
    (s.drawn).link = s.link ∧ (s.drawn).time = s.time ∧ (s.drawn).speed = s.speed ∧ (s.drawn).demand = s.demand ∧
    (s.drawn).blend = s.blend ∧ (s.drawn).slide = s.slide ∧ (s.drawn).order = s.order ∧
    (s.drawn).monitor = s.monitor ∧ (s.drawn).recorder = s.recorder ∧ (s.drawn).agent = s.agent ∧
    (s.drawn).tables = s.tables ∧ (s.drawn).pending = s.pending :=
  ⟨rfl, rfl, rfl, rfl, rfl, rfl, rfl, rfl, rfl, rfl, rfl, rfl⟩

@[simp] theorem State.drawn2_keeps (s : State) :
    (s.drawn2).link = s.link ∧ (s.drawn2).time = s.time ∧ (s.drawn2).speed = s.speed ∧ (s.drawn2).demand = s.demand ∧
    (s.drawn2).blend = s.blend ∧ (s.drawn2).slide = s.slide ∧ (s.drawn2).order = s.order ∧
    (s.drawn2).monitor = s.monitor ∧ (s.drawn2).recorder = s.recorder ∧ (s.drawn2).agent = s.agent ∧
    (s.drawn2).tables = s.tables ∧ (s.drawn2).pending = s.pending :=
  ⟨rfl, rfl, rfl, rfl, rfl, rfl, rfl, rfl, rfl, rfl, rfl, rfl⟩

@[simp] theorem State.clearFallback_keeps (s : State) :
    (s.clearFallback).link = s.link ∧ (s.clearFallback).time = s.time ∧ (s.clearFallback).speed = s.speed ∧
    (s.clearFallback).demand = s.demand ∧ (s.clearFallback).slide = s.slide ∧ (s.clearFallback).order = s.order ∧
    (s.clearFallback).monitor = s.monitor ∧ (s.clearFallback).recorder = s.recorder ∧
    (s.clearFallback).agent = s.agent ∧ (s.clearFallback).tables = s.tables ∧ (s.clearFallback).pending = s.pending ∧
    (s.clearFallback).draws = s.draws :=
  ⟨rfl, rfl, rfl, rfl, rfl, rfl, rfl, rfl, rfl, rfl, rfl, rfl⟩

@[simp] theorem State.ramp_keeps (t : Targets) (n : Nat) (s : State) :
    (s.ramp t n).link = s.link ∧ (s.ramp t n).time = s.time ∧ (s.ramp t n).speed = s.speed ∧
    (s.ramp t n).demand = s.demand ∧ (s.ramp t n).slide = s.slide ∧ (s.ramp t n).order = s.order ∧
    (s.ramp t n).monitor = s.monitor ∧ (s.ramp t n).recorder = s.recorder ∧ (s.ramp t n).agent = s.agent ∧
    (s.ramp t n).tables = s.tables ∧ (s.ramp t n).pending = s.pending ∧ (s.ramp t n).draws = s.draws :=
  ⟨rfl, rfl, rfl, rfl, rfl, rfl, rfl, rfl, rfl, rfl, rfl, rfl⟩

@[simp] theorem State.popRequest_keeps (s : State) :
    (s.popRequest).link = s.link ∧ (s.popRequest).time = s.time ∧ (s.popRequest).speed = s.speed ∧
    (s.popRequest).demand = s.demand ∧ (s.popRequest).blend = s.blend ∧ (s.popRequest).slide = s.slide ∧
    (s.popRequest).order = s.order ∧ (s.popRequest).monitor = s.monitor ∧ (s.popRequest).recorder = s.recorder ∧
    (s.popRequest).tables = s.tables ∧ (s.popRequest).pending = s.pending ∧ (s.popRequest).draws = s.draws :=
  ⟨rfl, rfl, rfl, rfl, rfl, rfl, rfl, rfl, rfl, rfl, rfl, rfl⟩

@[simp] theorem State.withPart_keeps (p : PartState) (s : State) :
    (s.withPart p).link = s.link ∧ (s.withPart p).time = s.time ∧ (s.withPart p).speed = s.speed ∧
    (s.withPart p).demand = s.demand ∧ (s.withPart p).blend = s.blend ∧ (s.withPart p).slide = s.slide ∧
    (s.withPart p).order = s.order ∧ (s.withPart p).monitor = s.monitor ∧ (s.withPart p).recorder = s.recorder ∧
    (s.withPart p).tables = s.tables ∧ (s.withPart p).pending = s.pending ∧ (s.withPart p).draws = s.draws :=
  ⟨rfl, rfl, rfl, rfl, rfl, rfl, rfl, rfl, rfl, rfl, rfl, rfl⟩

@[simp] theorem State.withValidation_keeps (n : Nat) (s : State) :
    (s.withValidation n).link = s.link ∧ (s.withValidation n).time = s.time ∧ (s.withValidation n).speed = s.speed ∧
    (s.withValidation n).demand = s.demand ∧ (s.withValidation n).blend = s.blend ∧
    (s.withValidation n).slide = s.slide ∧ (s.withValidation n).order = s.order ∧
    (s.withValidation n).monitor = s.monitor ∧ (s.withValidation n).recorder = s.recorder ∧
    (s.withValidation n).tables = s.tables ∧ (s.withValidation n).pending = s.pending ∧
    (s.withValidation n).draws = s.draws :=
  ⟨rfl, rfl, rfl, rfl, rfl, rfl, rfl, rfl, rfl, rfl, rfl, rfl⟩

@[simp] theorem State.setCause_keeps (c : FailsafeCause) (n : Nat) (s : State) :
    (s.setCause c n).link = s.link ∧ (s.setCause c n).time = s.time ∧ (s.setCause c n).speed = s.speed ∧
    (s.setCause c n).demand = s.demand ∧ (s.setCause c n).blend = s.blend ∧ (s.setCause c n).slide = s.slide ∧
    (s.setCause c n).order = s.order ∧ (s.setCause c n).monitor = s.monitor ∧
    (s.setCause c n).recorder = s.recorder ∧ (s.setCause c n).tables = s.tables ∧
    (s.setCause c n).pending = s.pending ∧ (s.setCause c n).draws = s.draws :=
  ⟨rfl, rfl, rfl, rfl, rfl, rfl, rfl, rfl, rfl, rfl, rfl, rfl⟩

@[simp] theorem State.withPending_keeps (q : List Instr) (s : State) :
    (s.withPending q).link = s.link ∧ (s.withPending q).time = s.time ∧ (s.withPending q).speed = s.speed ∧
    (s.withPending q).demand = s.demand ∧ (s.withPending q).blend = s.blend ∧ (s.withPending q).slide = s.slide ∧
    (s.withPending q).order = s.order ∧ (s.withPending q).monitor = s.monitor ∧
    (s.withPending q).recorder = s.recorder ∧ (s.withPending q).agent = s.agent ∧
    (s.withPending q).tables = s.tables ∧ (s.withPending q).draws = s.draws :=
  ⟨rfl, rfl, rfl, rfl, rfl, rfl, rfl, rfl, rfl, rfl, rfl, rfl⟩

@[simp] theorem State.markWasRead_keeps (s : State) :
    (s.markWasRead).link = s.link ∧ (s.markWasRead).speed = s.speed ∧ (s.markWasRead).demand = s.demand ∧
    (s.markWasRead).blend = s.blend ∧ (s.markWasRead).slide = s.slide ∧ (s.markWasRead).order = s.order ∧
    (s.markWasRead).monitor = s.monitor ∧ (s.markWasRead).recorder = s.recorder ∧ (s.markWasRead).agent = s.agent ∧
    (s.markWasRead).tables = s.tables ∧ (s.markWasRead).pending = s.pending ∧ (s.markWasRead).draws = s.draws :=
  ⟨rfl, rfl, rfl, rfl, rfl, rfl, rfl, rfl, rfl, rfl, rfl, rfl⟩

@[simp] theorem State.loadCorrector_keeps (v : BitVec 24) (x : Sense) (s : State) :
    (s.loadCorrector v x).link = s.link ∧ (s.loadCorrector v x).speed = s.speed ∧
    (s.loadCorrector v x).demand = s.demand ∧ (s.loadCorrector v x).blend = s.blend ∧
    (s.loadCorrector v x).slide = s.slide ∧ (s.loadCorrector v x).order = s.order ∧
    (s.loadCorrector v x).monitor = s.monitor ∧ (s.loadCorrector v x).recorder = s.recorder ∧
    (s.loadCorrector v x).agent = s.agent ∧ (s.loadCorrector v x).tables = s.tables ∧
    (s.loadCorrector v x).pending = s.pending ∧ (s.loadCorrector v x).draws = s.draws :=
  ⟨rfl, rfl, rfl, rfl, rfl, rfl, rfl, rfl, rfl, rfl, rfl, rfl⟩

@[simp] theorem State.release_keeps (n : Nat) (s : State) :
    (s.release n).link = s.link ∧ (s.release n).time = s.time ∧ (s.release n).speed = s.speed ∧
    (s.release n).demand = s.demand ∧ (s.release n).blend = s.blend ∧ (s.release n).slide = s.slide ∧
    (s.release n).order = s.order ∧ (s.release n).monitor = s.monitor ∧ (s.release n).agent = s.agent ∧
    (s.release n).tables = s.tables ∧ (s.release n).pending = s.pending ∧ (s.release n).draws = s.draws :=
  ⟨rfl, rfl, rfl, rfl, rfl, rfl, rfl, rfl, rfl, rfl, rfl, rfl⟩

@[simp] theorem State.enterRun_keeps (s : State) :
    (s.enterRun).link = s.link ∧ (s.enterRun).time = s.time ∧ (s.enterRun).speed = s.speed ∧
    (s.enterRun).tables = s.tables ∧ (s.enterRun).pending = s.pending ∧ (s.enterRun).draws = s.draws :=
  ⟨rfl, rfl, rfl, rfl, rfl, rfl⟩

@[simp] theorem State.abandonAll_keeps (s : State) :
    (s.abandonAll).time = s.time ∧ (s.abandonAll).speed = s.speed ∧ (s.abandonAll).demand = s.demand ∧
    (s.abandonAll).blend = s.blend ∧ (s.abandonAll).slide = s.slide ∧ (s.abandonAll).monitor = s.monitor ∧
    (s.abandonAll).recorder = s.recorder ∧ (s.abandonAll).agent = s.agent ∧ (s.abandonAll).tables = s.tables ∧
    (s.abandonAll).pending = s.pending ∧ (s.abandonAll).draws = s.draws :=
  ⟨rfl, rfl, rfl, rfl, rfl, rfl, rfl, rfl, rfl, rfl, rfl⟩

@[simp] theorem takeTimeMark_keeps (c : Count) (f : Frame) (s : State) :
    (takeTimeMark c f s).link = s.link ∧ (takeTimeMark c f s).speed = s.speed ∧
    (takeTimeMark c f s).demand = s.demand ∧ (takeTimeMark c f s).blend = s.blend ∧
    (takeTimeMark c f s).slide = s.slide ∧ (takeTimeMark c f s).order = s.order ∧
    (takeTimeMark c f s).monitor = s.monitor ∧ (takeTimeMark c f s).recorder = s.recorder ∧
    (takeTimeMark c f s).agent = s.agent ∧ (takeTimeMark c f s).tables = s.tables ∧
    (takeTimeMark c f s).pending = s.pending ∧ (takeTimeMark c f s).draws = s.draws :=
  ⟨rfl, rfl, rfl, rfl, rfl, rfl, rfl, rfl, rfl, rfl, rfl, rfl⟩

/-! ## What the updates write -/

@[simp] theorem State.withPending_pending (q : List Instr) (s : State) : (s.withPending q).pending = q := rfl
@[simp] theorem State.setRef_ref (r : RefRecord) (s : State) : (s.setRef r).speed.ref = r := rfl
@[simp] theorem State.setRef_axles (r : RefRecord) (s : State) : (s.setRef r).speed.axles = s.speed.axles := rfl
@[simp] theorem State.onAxleSpeed_ref (i : AxleSlot) (f : AxleSpeed → AxleSpeed) (s : State) :
    (s.onAxleSpeed i f).speed.ref = s.speed.ref := rfl
@[simp] theorem State.setEff_eff (e : EffDemand) (s : State) : (s.setEff e).demand.eff = e := rfl
@[simp] theorem State.setEff_sources (e : EffDemand) (s : State) : (s.setEff e).demand.sources = s.demand.sources := rfl
@[simp] theorem State.onSource_eff (d : SourceSlot) (f : SourceRec → SourceRec) (s : State) :
    (s.onSource d f).demand.eff = s.demand.eff := rfl
@[simp] theorem State.setEvents_events (es : List PendingEvent) (s : State) : (s.setEvents es).monitor.events = es := rfl
@[simp] theorem State.setEvents_runs (es : List PendingEvent) (s : State) :
    (s.setEvents es).monitor.runs = s.monitor.runs := rfl
@[simp] theorem State.setRun_events (m : Fin 8) (r : RunState) (s : State) :
    (s.setRun m r).monitor.events = s.monitor.events := rfl
@[simp] theorem State.setRecorder_recorder (r : RecorderBlock) (s : State) : (s.setRecorder r).recorder = r := rfl
@[simp] theorem State.onNode_controlLoss (n : NodeSlot) (f : NodeRec → NodeRec) (s : State) :
    (s.onNode n f).order.controlLoss = s.order.controlLoss := rfl
@[simp] theorem State.popRequest_queue (s : State) : s.popRequest.agent.queue = s.agent.queue.drop 1 := rfl
@[simp] theorem State.popRequest_part (s : State) : s.popRequest.agent.part = s.agent.part := rfl
@[simp] theorem State.popRequest_controlValid (s : State) : s.popRequest.agent.controlValid = s.agent.controlValid := rfl
@[simp] theorem State.withPart_part (p : PartState) (s : State) : (s.withPart p).agent.part = p := rfl
@[simp] theorem State.withPart_queue (p : PartState) (s : State) : (s.withPart p).agent.queue = s.agent.queue := rfl
@[simp] theorem State.withValidation_part (n : Nat) (s : State) : (s.withValidation n).agent.part = s.agent.part := rfl
@[simp] theorem State.withValidation_queue (n : Nat) (s : State) : (s.withValidation n).agent.queue = s.agent.queue := rfl
@[simp] theorem State.setCause_part (c : FailsafeCause) (n : Nat) (s : State) : (s.setCause c n).agent.part = s.agent.part := rfl
@[simp] theorem State.enterRun_part (s : State) : s.enterRun.agent.part = .run := rfl
@[simp] theorem State.drawn_draws (s : State) : s.drawn.draws = s.draws + 1 := rfl

/-! ## Records by slot -/

theorem vec2_get {α : Type} (f : Fin 2 → α) (i : Fin 2) : (vec2 f)[i] = f i := by fin_cases i <;> rfl
theorem vec6_get {α : Type} (f : Fin 6 → α) (i : Fin 6) : (vec6 f)[i] = f i := by fin_cases i <;> rfl
theorem vec8_get {α : Type} (f : Fin 8 → α) (i : Fin 8) : (vec8 f)[i] = f i := by fin_cases i <;> rfl

/-! simp reads a vector at a slot as a vector at the slot's number, so these are the forms that fire. -/

@[simp] theorem vec2_val {α : Type} (f : Fin 2 → α) (i : Fin 2) : (vec2 f)[i.val] = f i := vec2_get f i
@[simp] theorem vec6_val {α : Type} (f : Fin 6 → α) (i : Fin 6) : (vec6 f)[i.val] = f i := vec6_get f i
@[simp] theorem vec8_val {α : Type} (f : Fin 8 → α) (i : Fin 8) : (vec8 f)[i.val] = f i := vec8_get f i
@[simp] theorem vec2_zero {α : Type} (f : Fin 2 → α) : (vec2 f)[0] = f 0 := rfl
@[simp] theorem vec2_one {α : Type} (f : Fin 2 → α) : (vec2 f)[1] = f 1 := rfl

/-- A slot written reads as written, any other as before. -/
theorem vector_set_get {α : Type} {n : Nat} (v : Vector α n) (i j : Fin n) (x : α) :
    (v.set i x)[j] = if i = j then x else v[j] := by
  simp only [Fin.getElem_fin, Vector.getElem_set, Fin.ext_iff]

/-- A change of one axle's speed part is a change of that axle. -/
theorem State.onAxleSpeed_get (i j : AxleSlot) (f : AxleSpeed → AxleSpeed) (s : State) :
    (s.onAxleSpeed i f).speed.axles[j] = if i = j then f s.speed.axles[i] else s.speed.axles[j] := vector_set_get _ _ _ _

/-- A change of one axle's slide part is a change of that axle. -/
theorem State.onAxleSlide_get (i j : AxleSlot) (f : AxleSlide → AxleSlide) (s : State) :
    (s.onAxleSlide i f).slide.axles[j] = if i = j then f s.slide.axles[i] else s.slide.axles[j] := vector_set_get _ _ _ _

/-- A change of one source's record is a change of that source. -/
theorem State.onSource_get (d e : SourceSlot) (f : SourceRec → SourceRec) (s : State) :
    (s.onSource d f).demand.sources[e] = if d = e then f s.demand.sources[d] else s.demand.sources[e] :=
  vector_set_get _ _ _ _

/-- A change of one node's records is a change of that node. -/
theorem State.onNode_node (n m : NodeSlot) (f : NodeRec → NodeRec) (s : State) :
    (s.onNode n f).node m = if n = m then f (s.node n) else s.node m := vector_set_get _ _ _ _

@[simp] theorem State.onAxleSlide_trucks (i : AxleSlot) (f : AxleSlide → AxleSlide) (s : State) :
    (s.onAxleSlide i f).slide.trucks = s.slide.trucks := rfl
@[simp] theorem State.onTruckSlide_axles (t : TruckSlot) (f : TruckSlide → TruckSlide) (s : State) :
    (s.onTruckSlide t f).slide.axles = s.slide.axles := rfl

/-- The node records depend on the order unit's block alone. -/
theorem State.node_congr {s t : State} (h : s.order = t.order) (n : NodeSlot) : s.node n = t.node n := by
  simp only [State.node, h]

end Sys2Proof.Machine
end

