-- ==== Sys2Proof/Laws/Frames.lean ====
section
/-! SUPPORT. What the shared operations leave alone, block by block: one conjunction per operation, which the provers cite instead
of unfolding it. -/

namespace Sys2Proof.Machine

/-! ## Folds and free orders -/

/-- What every element's function keeps, a fold keeps. -/
theorem foldl_keeps {α β : Type} (P : α → Prop) (f : α → β → α) (h : ∀ a b, P a → P (f a b)) :
    ∀ (l : List β) (a : α), P a → P (l.foldl f a)
  | [], _, ha => ha
  | b :: l, a, ha => foldl_keeps P f h l (f a b) (h a b ha)

/-- What three reactions and the taking of a free value keep, the three keep in every order. -/
theorem State.unordered3_keeps (P : State → Prop) {f g h : State → State} (hd : ∀ s, P s → P s.drawn)
    (hf : ∀ s, P s → P (f s)) (hg : ∀ s, P s → P (g s)) (hh : ∀ s, P s → P (h s)) (s : State) (hs : P s) :
    P (s.unordered3 f g h) := by
  unfold State.unordered3 Order3.run
  have := hd s hs
  cases Config.freeOrder s.draws <;> simp only <;> first
    | exact hh _ (hg _ (hf _ this)) | exact hg _ (hh _ (hf _ this)) | exact hh _ (hf _ (hg _ this))
    | exact hf _ (hh _ (hg _ this)) | exact hg _ (hf _ (hh _ this)) | exact hf _ (hg _ (hh _ this))

/-- What two reactions and the taking of a free value keep, the two keep in either order. -/
theorem State.unordered2_keeps (P : State → Prop) {f g : State → State} (hd : ∀ s, P s → P s.drawn)
    (hf : ∀ s, P s → P (f s)) (hg : ∀ s, P s → P (g s)) (s : State) (hs : P s) : P (s.unordered2 f g) := by
  unfold State.unordered2 flipRun
  split
  · exact hg _ (hf _ (hd s hs))
  · exact hf _ (hg _ (hd s hs))

/-- What a reaction, the monitor's pass and the taking of a free value keep, the two keep together. -/
theorem State.withMonitor_keeps (P : State → Prop) (u : Updates) {f : State → State} (hd : ∀ s, P s → P s.drawn)
    (hf : ∀ s, P s → P (f s)) (hm : ∀ s, P s → P (s.monitorPass u)) (s : State) (hs : P s) : P (s.withMonitor u f) := by
  unfold State.withMonitor
  split
  · exact State.unordered2_keeps P hd hf hm s hs
  · exact hf s hs

/-! ## Ports and events -/

@[simp] theorem State.offer_keeps (p : Port) (o : Origin) (d k : Byte) (b : List Byte) (s : State) :
    (s.offer p o d k b).time = s.time ∧ (s.offer p o d k b).speed = s.speed ∧ (s.offer p o d k b).demand = s.demand ∧
    (s.offer p o d k b).blend = s.blend ∧ (s.offer p o d k b).slide = s.slide ∧ (s.offer p o d k b).order = s.order ∧
    (s.offer p o d k b).monitor = s.monitor ∧ (s.offer p o d k b).recorder = s.recorder ∧
    (s.offer p o d k b).agent = s.agent ∧ (s.offer p o d k b).tables = s.tables ∧
    (s.offer p o d k b).pending = s.pending ∧ (s.offer p o d k b).draws = s.draws := by
  unfold State.offer
  split <;> simp

@[simp] theorem State.sendNotice_keeps (e : EventId) (s : State) :
    (s.sendNotice e).time = s.time ∧ (s.sendNotice e).speed = s.speed ∧ (s.sendNotice e).demand = s.demand ∧
    (s.sendNotice e).blend = s.blend ∧ (s.sendNotice e).slide = s.slide ∧ (s.sendNotice e).order = s.order ∧
    (s.sendNotice e).monitor = s.monitor ∧ (s.sendNotice e).recorder = s.recorder ∧
    (s.sendNotice e).agent = s.agent ∧ (s.sendNotice e).tables = s.tables ∧ (s.sendNotice e).pending = s.pending ∧
    (s.sendNotice e).draws = s.draws := by
  unfold State.sendNotice
  split <;> simp

/-- A raise touches the event set and, for its notice, the ports (R146, R147). -/
@[simp] theorem State.raise_keeps (e : EventId) (s : State) :
    (s.raise e).time = s.time ∧ (s.raise e).speed = s.speed ∧ (s.raise e).demand = s.demand ∧
    (s.raise e).blend = s.blend ∧ (s.raise e).slide = s.slide ∧ (s.raise e).order = s.order ∧
    (s.raise e).recorder = s.recorder ∧ (s.raise e).agent = s.agent ∧ (s.raise e).tables = s.tables ∧
    (s.raise e).pending = s.pending ∧ (s.raise e).draws = s.draws := by
  unfold State.raise
  split <;> simp

@[simp] theorem State.respond_keeps (r : Request) (st : Status) (d : List Byte) (s : State) :
    (s.respond r st d).time = s.time ∧ (s.respond r st d).speed = s.speed ∧ (s.respond r st d).demand = s.demand ∧
    (s.respond r st d).blend = s.blend ∧ (s.respond r st d).slide = s.slide ∧ (s.respond r st d).order = s.order ∧
    (s.respond r st d).monitor = s.monitor ∧ (s.respond r st d).recorder = s.recorder ∧
    (s.respond r st d).agent = s.agent ∧ (s.respond r st d).tables = s.tables ∧
    (s.respond r st d).pending = s.pending ∧ (s.respond r st d).draws = s.draws := by
  unfold State.respond
  split <;> simp

@[simp] theorem State.forwardFrom_keeps (p : Port) (f : Frame) (s : State) :
    (s.forwardFrom p f).time = s.time ∧ (s.forwardFrom p f).speed = s.speed ∧ (s.forwardFrom p f).demand = s.demand ∧
    (s.forwardFrom p f).blend = s.blend ∧ (s.forwardFrom p f).slide = s.slide ∧ (s.forwardFrom p f).order = s.order ∧
    (s.forwardFrom p f).recorder = s.recorder ∧ (s.forwardFrom p f).agent = s.agent ∧
    (s.forwardFrom p f).tables = s.tables ∧ (s.forwardFrom p f).pending = s.pending ∧
    (s.forwardFrom p f).draws = s.draws := by
  unfold State.forwardFrom
  split <;> simp

/-! ## Recorder -/

@[simp] theorem openIncident_keeps (c : Cause) (xs : List Incident) (s : State) :
    (openIncident s c xs).link = s.link ∧ (openIncident s c xs).time = s.time ∧
    (openIncident s c xs).speed = s.speed ∧ (openIncident s c xs).demand = s.demand ∧
    (openIncident s c xs).blend = s.blend ∧ (openIncident s c xs).slide = s.slide ∧
    (openIncident s c xs).order = s.order ∧ (openIncident s c xs).monitor = s.monitor ∧
    (openIncident s c xs).agent = s.agent ∧ (openIncident s c xs).tables = s.tables ∧
    (openIncident s c xs).pending = s.pending ∧ (openIncident s c xs).draws = s.draws :=
  ⟨rfl, rfl, rfl, rfl, rfl, rfl, rfl, rfl, rfl, rfl, rfl, rfl⟩

@[simp] theorem refuseTrigger_keeps (s : State) :
    (refuseTrigger s).time = s.time ∧ (refuseTrigger s).speed = s.speed ∧ (refuseTrigger s).demand = s.demand ∧
    (refuseTrigger s).blend = s.blend ∧ (refuseTrigger s).slide = s.slide ∧ (refuseTrigger s).order = s.order ∧
    (refuseTrigger s).agent = s.agent ∧ (refuseTrigger s).tables = s.tables ∧ (refuseTrigger s).pending = s.pending ∧
    (refuseTrigger s).draws = s.draws := by
  unfold refuseTrigger
  simp

/-- A trigger touches the recorder and, when it is refused, what a raise touches (R152 to R157). -/
@[simp] theorem State.trigger_keeps (c : Cause) (s : State) :
    (s.trigger c).time = s.time ∧ (s.trigger c).speed = s.speed ∧ (s.trigger c).demand = s.demand ∧
    (s.trigger c).blend = s.blend ∧ (s.trigger c).slide = s.slide ∧ (s.trigger c).order = s.order ∧
    (s.trigger c).agent = s.agent ∧ (s.trigger c).tables = s.tables ∧ (s.trigger c).pending = s.pending ∧
    (s.trigger c).draws = s.draws := by
  unfold State.trigger
  split
  · split
    · simp
    · split <;> simp
  · simp

@[simp] theorem State.takeSnapshot_keeps (s : State) :
    (s.takeSnapshot).link = s.link ∧ (s.takeSnapshot).time = s.time ∧ (s.takeSnapshot).speed = s.speed ∧
    (s.takeSnapshot).demand = s.demand ∧ (s.takeSnapshot).blend = s.blend ∧ (s.takeSnapshot).slide = s.slide ∧
    (s.takeSnapshot).order = s.order ∧ (s.takeSnapshot).monitor = s.monitor ∧ (s.takeSnapshot).agent = s.agent ∧
    (s.takeSnapshot).tables = s.tables ∧ (s.takeSnapshot).pending = s.pending ∧ (s.takeSnapshot).draws = s.draws := by
  unfold State.takeSnapshot
  split <;> simp

@[simp] theorem State.markRead_keeps (n : Option Nat) (s : State) :
    (s.markRead n).link = s.link ∧ (s.markRead n).time = s.time ∧ (s.markRead n).speed = s.speed ∧
    (s.markRead n).demand = s.demand ∧ (s.markRead n).blend = s.blend ∧ (s.markRead n).slide = s.slide ∧
    (s.markRead n).order = s.order ∧ (s.markRead n).monitor = s.monitor ∧ (s.markRead n).agent = s.agent ∧
    (s.markRead n).tables = s.tables ∧ (s.markRead n).pending = s.pending ∧ (s.markRead n).draws = s.draws := by
  unfold State.markRead
  split <;> simp

/-! ## Order unit -/

@[simp] theorem State.judgeControlLoss_keeps (n : Nat) (s : State) :
    (s.judgeControlLoss n).link = s.link ∧ (s.judgeControlLoss n).time = s.time ∧
    (s.judgeControlLoss n).speed = s.speed ∧ (s.judgeControlLoss n).demand = s.demand ∧
    (s.judgeControlLoss n).blend = s.blend ∧ (s.judgeControlLoss n).slide = s.slide ∧
    (s.judgeControlLoss n).monitor = s.monitor ∧ (s.judgeControlLoss n).recorder = s.recorder ∧
    (s.judgeControlLoss n).agent = s.agent ∧ (s.judgeControlLoss n).tables = s.tables ∧
    (s.judgeControlLoss n).pending = s.pending ∧ (s.judgeControlLoss n).draws = s.draws := by
  unfold State.judgeControlLoss
  split
  · simp
  · split <;> simp

@[simp] theorem State.transitionEffects_keeps (n : NodeSlot) (x y : NodeState) (s : State) :
    (s.transitionEffects n x y).time = s.time ∧ (s.transitionEffects n x y).speed = s.speed ∧
    (s.transitionEffects n x y).demand = s.demand ∧ (s.transitionEffects n x y).blend = s.blend ∧
    (s.transitionEffects n x y).slide = s.slide ∧ (s.transitionEffects n x y).order = s.order ∧
    (s.transitionEffects n x y).agent = s.agent ∧ (s.transitionEffects n x y).tables = s.tables ∧
    (s.transitionEffects n x y).pending = s.pending ∧ (s.transitionEffects n x y).draws = s.draws := by
  unfold State.transitionEffects
  split
  · simp
  · split <;> simp

@[simp] theorem State.takeOutcome_keeps (n : NodeSlot) (b : Bool) (s : State) :
    (s.takeOutcome n b).time = s.time ∧ (s.takeOutcome n b).speed = s.speed ∧ (s.takeOutcome n b).demand = s.demand ∧
    (s.takeOutcome n b).blend = s.blend ∧ (s.takeOutcome n b).slide = s.slide ∧ (s.takeOutcome n b).agent = s.agent ∧
    (s.takeOutcome n b).tables = s.tables ∧ (s.takeOutcome n b).pending = s.pending ∧
    (s.takeOutcome n b).draws = s.draws := by
  unfold State.takeOutcome
  simp

@[simp] theorem State.supersede_keeps (n : NodeSlot) (s : State) :
    (s.supersede n).time = s.time ∧ (s.supersede n).speed = s.speed ∧ (s.supersede n).demand = s.demand ∧
    (s.supersede n).blend = s.blend ∧ (s.supersede n).slide = s.slide ∧ (s.supersede n).agent = s.agent ∧
    (s.supersede n).tables = s.tables ∧ (s.supersede n).pending = s.pending ∧ (s.supersede n).draws = s.draws := by
  unfold State.supersede
  split <;> simp

@[simp] theorem State.issueOrder_keeps (n : NodeSlot) (s : State) :
    (s.issueOrder n).time = s.time ∧ (s.issueOrder n).speed = s.speed ∧ (s.issueOrder n).demand = s.demand ∧
    (s.issueOrder n).blend = s.blend ∧ (s.issueOrder n).slide = s.slide ∧ (s.issueOrder n).agent = s.agent ∧
    (s.issueOrder n).tables = s.tables ∧ (s.issueOrder n).pending = s.pending ∧ (s.issueOrder n).draws = s.draws := by
  unfold State.issueOrder
  simp only
  split <;> simp

@[simp] theorem State.orderNode_keeps (n : NodeSlot) (s : State) :
    (s.orderNode n).time = s.time ∧ (s.orderNode n).speed = s.speed ∧ (s.orderNode n).demand = s.demand ∧
    (s.orderNode n).blend = s.blend ∧ (s.orderNode n).slide = s.slide ∧ (s.orderNode n).agent = s.agent ∧
    (s.orderNode n).tables = s.tables ∧ (s.orderNode n).pending = s.pending ∧ (s.orderNode n).draws = s.draws := by
  unfold State.orderNode
  split <;> simp

@[simp] theorem State.orderAll_keeps (s : State) :
    (s.orderAll).time = s.time ∧ (s.orderAll).speed = s.speed ∧ (s.orderAll).demand = s.demand ∧
    (s.orderAll).blend = s.blend ∧ (s.orderAll).slide = s.slide ∧ (s.orderAll).agent = s.agent ∧
    (s.orderAll).tables = s.tables ∧ (s.orderAll).pending = s.pending ∧ (s.orderAll).draws = s.draws := by
  unfold State.orderAll
  split
  · simp [nodeSlots]
  · simp

@[simp] theorem State.matchReport_keeps (n : NodeSlot) (c : Count) (g : Byte) (x y z : Nat) (s : State) :
    (s.matchReport n c g x y z).time = s.time ∧ (s.matchReport n c g x y z).speed = s.speed ∧
    (s.matchReport n c g x y z).demand = s.demand ∧ (s.matchReport n c g x y z).blend = s.blend ∧
    (s.matchReport n c g x y z).slide = s.slide ∧ (s.matchReport n c g x y z).agent = s.agent ∧
    (s.matchReport n c g x y z).tables = s.tables ∧ (s.matchReport n c g x y z).pending = s.pending ∧
    (s.matchReport n c g x y z).draws = s.draws := by
  unfold State.matchReport
  simp only
  split
  · split <;> simp
  · simp

@[simp] theorem State.offerRelease_keeps (n : NodeSlot) (s : State) :
    (s.offerRelease n).time = s.time ∧ (s.offerRelease n).speed = s.speed ∧ (s.offerRelease n).demand = s.demand ∧
    (s.offerRelease n).blend = s.blend ∧ (s.offerRelease n).slide = s.slide ∧
    (s.offerRelease n).monitor = s.monitor ∧ (s.offerRelease n).recorder = s.recorder ∧
    (s.offerRelease n).agent = s.agent ∧ (s.offerRelease n).tables = s.tables ∧
    (s.offerRelease n).pending = s.pending ∧ (s.offerRelease n).draws = s.draws := by
  unfold State.offerRelease
  split <;> simp

@[simp] theorem State.releaseOnLeaving_keeps (n : NodeSlot) (s : State) :
    (s.releaseOnLeaving n).time = s.time ∧ (s.releaseOnLeaving n).speed = s.speed ∧
    (s.releaseOnLeaving n).demand = s.demand ∧ (s.releaseOnLeaving n).blend = s.blend ∧
    (s.releaseOnLeaving n).slide = s.slide ∧ (s.releaseOnLeaving n).monitor = s.monitor ∧
    (s.releaseOnLeaving n).recorder = s.recorder ∧ (s.releaseOnLeaving n).agent = s.agent ∧
    (s.releaseOnLeaving n).tables = s.tables ∧ (s.releaseOnLeaving n).pending = s.pending ∧
    (s.releaseOnLeaving n).draws = s.draws := by
  unfold State.releaseOnLeaving
  split <;> simp

@[simp] theorem State.releaseControl_keeps (s : State) :
    (s.releaseControl).time = s.time ∧ (s.releaseControl).speed = s.speed ∧ (s.releaseControl).demand = s.demand ∧
    (s.releaseControl).blend = s.blend ∧ (s.releaseControl).slide = s.slide ∧
    (s.releaseControl).monitor = s.monitor ∧ (s.releaseControl).recorder = s.recorder ∧
    (s.releaseControl).agent = s.agent ∧ (s.releaseControl).tables = s.tables ∧
    (s.releaseControl).pending = s.pending ∧ (s.releaseControl).draws = s.draws := by
  unfold State.releaseControl
  simp [nodeSlots]

@[simp] theorem State.cutNode_keeps (n : NodeSlot) (s : State) :
    (s.cutNode n).time = s.time ∧ (s.cutNode n).speed = s.speed ∧ (s.cutNode n).demand = s.demand ∧
    (s.cutNode n).blend = s.blend ∧ (s.cutNode n).slide = s.slide ∧ (s.cutNode n).monitor = s.monitor ∧
    (s.cutNode n).recorder = s.recorder ∧ (s.cutNode n).agent = s.agent ∧ (s.cutNode n).tables = s.tables ∧
    (s.cutNode n).pending = s.pending ∧ (s.cutNode n).draws = s.draws := by
  unfold State.cutNode
  simp only
  split
  · simp
  · split <;> simp

@[simp] theorem State.restoreNode_keeps (n : NodeSlot) (s : State) :
    (s.restoreNode n).link = s.link ∧ (s.restoreNode n).time = s.time ∧ (s.restoreNode n).speed = s.speed ∧
    (s.restoreNode n).demand = s.demand ∧ (s.restoreNode n).blend = s.blend ∧ (s.restoreNode n).slide = s.slide ∧
    (s.restoreNode n).monitor = s.monitor ∧ (s.restoreNode n).recorder = s.recorder ∧
    (s.restoreNode n).agent = s.agent ∧ (s.restoreNode n).tables = s.tables ∧ (s.restoreNode n).pending = s.pending ∧
    (s.restoreNode n).draws = s.draws := by
  unfold State.restoreNode
  split <;> simp

@[simp] theorem State.missDeadline_keeps (n : NodeSlot) (s : State) :
    (s.missDeadline n).time = s.time ∧ (s.missDeadline n).speed = s.speed ∧ (s.missDeadline n).demand = s.demand ∧
    (s.missDeadline n).blend = s.blend ∧ (s.missDeadline n).slide = s.slide ∧ (s.missDeadline n).agent = s.agent ∧
    (s.missDeadline n).tables = s.tables ∧ (s.missDeadline n).pending = s.pending ∧ (s.missDeadline n).draws = s.draws := by
  unfold State.missDeadline
  split <;> simp

/-! ## Agent and monitor -/

/-- Leaving RUN keeps the time base, the speed unit, the run states and event set, and the tables (R174). -/
@[simp] theorem State.leaveRun_keeps (p : PartState) (s : State) :
    (s.leaveRun p).time = s.time ∧ (s.leaveRun p).speed = s.speed ∧ (s.leaveRun p).monitor = s.monitor ∧
    (s.leaveRun p).tables = s.tables ∧ (s.leaveRun p).pending = s.pending ∧ (s.leaveRun p).draws = s.draws := by
  unfold State.leaveRun
  simp

@[simp] theorem State.enterFailsafe_keeps (c : FailsafeCause) (n : Nat) (s : State) :
    (s.enterFailsafe c n).time = s.time ∧ (s.enterFailsafe c n).speed = s.speed ∧
    (s.enterFailsafe c n).tables = s.tables ∧ (s.enterFailsafe c n).pending = s.pending ∧
    (s.enterFailsafe c n).draws = s.draws := by
  unfold State.enterFailsafe
  split <;> simp

@[simp] theorem State.setFallback_keeps (s : State) :
    (s.setFallback).time = s.time ∧ (s.setFallback).speed = s.speed ∧ (s.setFallback).demand = s.demand ∧
    (s.setFallback).slide = s.slide ∧ (s.setFallback).order = s.order ∧ (s.setFallback).recorder = s.recorder ∧
    (s.setFallback).agent = s.agent ∧ (s.setFallback).tables = s.tables ∧ (s.setFallback).pending = s.pending ∧
    (s.setFallback).draws = s.draws := by
  unfold State.setFallback
  split <;> simp

@[simp] theorem State.fire_keeps (m : Fin 8) (e : MonEntry) (s : State) :
    (s.fire m e).time = s.time ∧ (s.fire m e).speed = s.speed ∧ (s.fire m e).demand = s.demand ∧
    (s.fire m e).slide = s.slide ∧ (s.fire m e).order = s.order ∧ (s.fire m e).agent = s.agent ∧
    (s.fire m e).tables = s.tables ∧ (s.fire m e).pending = s.pending ∧ (s.fire m e).draws = s.draws := by
  unfold State.fire
  simp only
  split <;> split <;> split <;> simp

theorem State.passEntry_keeps (u : Updates) (m : Fin 8) (a : State × Option (Fin 8)) :
    (State.passEntry u a m).1.time = a.1.time ∧ (State.passEntry u a m).1.speed = a.1.speed ∧
    (State.passEntry u a m).1.demand = a.1.demand ∧ (State.passEntry u a m).1.slide = a.1.slide ∧
    (State.passEntry u a m).1.order = a.1.order ∧ (State.passEntry u a m).1.agent = a.1.agent ∧
    (State.passEntry u a m).1.tables = a.1.tables ∧ (State.passEntry u a m).1.pending = a.1.pending ∧
    (State.passEntry u a m).1.draws = a.1.draws := by
  unfold State.passEntry
  simp only
  split
  · simp
  · split
    · split <;> simp
    · simp

/-- The entries of a pass touch what firings touch. -/
theorem State.pass_keeps (u : Updates) (l : List (Fin 8)) (a : State × Option (Fin 8)) :
    (l.foldl (State.passEntry u) a).1.time = a.1.time ∧ (l.foldl (State.passEntry u) a).1.speed = a.1.speed ∧
    (l.foldl (State.passEntry u) a).1.demand = a.1.demand ∧ (l.foldl (State.passEntry u) a).1.slide = a.1.slide ∧
    (l.foldl (State.passEntry u) a).1.order = a.1.order ∧ (l.foldl (State.passEntry u) a).1.agent = a.1.agent ∧
    (l.foldl (State.passEntry u) a).1.tables = a.1.tables ∧ (l.foldl (State.passEntry u) a).1.pending = a.1.pending ∧
    (l.foldl (State.passEntry u) a).1.draws = a.1.draws := by
  induction l generalizing a with
  | nil => simp
  | cons m l ih =>
    have := State.passEntry_keeps u m a
    simp only [List.foldl_cons, ih, this, and_self]

/-- A pass touches neither the time base nor the speed unit nor the tables (R141, R144). -/
@[simp] theorem State.monitorPass_keeps (u : Updates) (s : State) :
    (s.monitorPass u).time = s.time ∧ (s.monitorPass u).speed = s.speed ∧ (s.monitorPass u).tables = s.tables ∧
    (s.monitorPass u).pending = s.pending ∧ (s.monitorPass u).draws = s.draws := by
  have := State.pass_keeps u monitorEntries (s, none)
  unfold State.monitorPass
  split
  · simp only
    split <;> simp [this]
  · simp

/-! ## Slide controller and epoch -/

@[simp] theorem State.evaluateSlide_keeps (g : GoodEntry) (s : State) :
    (s.evaluateSlide g).time = s.time ∧ (s.evaluateSlide g).speed = s.speed ∧ (s.evaluateSlide g).demand = s.demand ∧
    (s.evaluateSlide g).blend = s.blend ∧ (s.evaluateSlide g).order = s.order ∧ (s.evaluateSlide g).agent = s.agent ∧
    (s.evaluateSlide g).tables = s.tables ∧ (s.evaluateSlide g).pending = s.pending ∧
    (s.evaluateSlide g).draws = s.draws := by
  unfold State.evaluateSlide
  simp only
  split <;> simp

@[simp] theorem State.handOn_keeps (g : GoodEntry) (s : State) :
    (s.handOn g).time = s.time ∧ (s.handOn g).speed = s.speed ∧ (s.handOn g).tables = s.tables ∧
    (s.handOn g).pending = s.pending := by
  unfold State.handOn
  exact State.withMonitor_keeps (fun t => t.time = s.time ∧ t.speed = s.speed ∧ t.tables = s.tables ∧ t.pending = s.pending) _
    (by simp) (by simp) (by simp) _ (by simp)

@[simp] theorem State.noteUnplaced_keeps (n : Nat) (s : State) :
    (s.noteUnplaced n).time = s.time ∧ (s.noteUnplaced n).speed = s.speed ∧ (s.noteUnplaced n).demand = s.demand ∧
    (s.noteUnplaced n).slide = s.slide ∧ (s.noteUnplaced n).order = s.order ∧
    (s.noteUnplaced n).recorder = s.recorder ∧ (s.noteUnplaced n).agent = s.agent ∧
    (s.noteUnplaced n).tables = s.tables ∧ (s.noteUnplaced n).pending = s.pending ∧ (s.noteUnplaced n).draws = s.draws := by
  unfold State.noteUnplaced
  simp only
  split <;> simp

@[simp] theorem State.beginEpoch_keeps (s : State) :
    (s.beginEpoch).link = s.link ∧ (s.beginEpoch).time = s.time ∧ (s.beginEpoch).speed = s.speed ∧
    (s.beginEpoch).demand = s.demand ∧ (s.beginEpoch).order = s.order ∧ (s.beginEpoch).monitor = s.monitor ∧
    (s.beginEpoch).recorder = s.recorder ∧ (s.beginEpoch).agent = s.agent ∧ (s.beginEpoch).tables = s.tables ∧
    (s.beginEpoch).pending = s.pending ∧ (s.beginEpoch).draws = s.draws :=
  ⟨rfl, rfl, rfl, rfl, rfl, rfl, rfl, rfl, rfl, rfl, rfl⟩

@[simp] theorem State.computeEpoch_keeps (k : EpochKind) (s : State) :
    (s.computeEpoch k).time = s.time ∧ (s.computeEpoch k).speed = s.speed ∧ (s.computeEpoch k).demand = s.demand ∧
    (s.computeEpoch k).order = s.order ∧ (s.computeEpoch k).recorder = s.recorder ∧
    (s.computeEpoch k).agent = s.agent ∧ (s.computeEpoch k).tables = s.tables ∧
    (s.computeEpoch k).pending = s.pending ∧ (s.computeEpoch k).draws = s.draws := by
  unfold State.computeEpoch
  simp

@[simp] theorem State.monitorPublication_keeps (s : State) :
    (s.monitorPublication).time = s.time ∧ (s.monitorPublication).speed = s.speed ∧
    (s.monitorPublication).tables = s.tables ∧ (s.monitorPublication).pending = s.pending ∧
    (s.monitorPublication).draws = s.draws := by
  unfold State.monitorPublication
  simp

@[simp] theorem State.reactToPublication_keeps (s : State) :
    (s.reactToPublication).time = s.time ∧ (s.reactToPublication).speed = s.speed ∧
    (s.reactToPublication).tables = s.tables ∧ (s.reactToPublication).pending = s.pending := by
  unfold State.reactToPublication
  exact State.unordered3_keeps (fun t => t.time = s.time ∧ t.speed = s.speed ∧ t.tables = s.tables ∧ t.pending = s.pending)
    (by simp) (by simp) (by simp) (by simp) s (by simp)

@[simp] theorem State.takeEpoch_keeps (k : EpochKind) (s : State) :
    (s.takeEpoch k).time = s.time ∧ (s.takeEpoch k).speed = s.speed ∧ (s.takeEpoch k).tables = s.tables ∧
    (s.takeEpoch k).pending = s.pending := by
  unfold State.takeEpoch
  simp

@[simp] theorem State.regularEpoch_keeps (s : State) :
    (s.regularEpoch).time = s.time ∧ (s.regularEpoch).speed = s.speed ∧ (s.regularEpoch).tables = s.tables ∧
    (s.regularEpoch).pending = s.pending := by
  unfold State.regularEpoch
  simp

@[simp] theorem State.extraEpoch_keeps (s : State) :
    (s.extraEpoch).time = s.time ∧ (s.extraEpoch).speed = s.speed ∧ (s.extraEpoch).tables = s.tables ∧
    (s.extraEpoch).pending = s.pending := by
  unfold State.extraEpoch
  split <;> simp

/-! ## Demand intake -/

@[simp] theorem State.enterEmergency_keeps (s : State) :
    (s.enterEmergency).time = s.time ∧ (s.enterEmergency).speed = s.speed ∧ (s.enterEmergency).tables = s.tables ∧
    (s.enterEmergency).pending = s.pending := by
  unfold State.enterEmergency
  exact State.unordered3_keeps (fun t => t.time = s.time ∧ t.speed = s.speed ∧ t.tables = s.tables ∧ t.pending = s.pending)
    (by simp) (by simp) (by simp) (by simp) s (by simp)

@[simp] theorem State.recompute_keeps (s : State) :
    (s.recompute).time = s.time ∧ (s.recompute).speed = s.speed ∧ (s.recompute).tables = s.tables ∧
    (s.recompute).pending = s.pending := by
  unfold State.recompute
  simp only
  split <;> simp

@[simp] theorem State.judgeLatch_keeps (s : State) :
    (s.judgeLatch).link = s.link ∧ (s.judgeLatch).time = s.time ∧ (s.judgeLatch).speed = s.speed ∧
    (s.judgeLatch).blend = s.blend ∧ (s.judgeLatch).slide = s.slide ∧ (s.judgeLatch).order = s.order ∧
    (s.judgeLatch).monitor = s.monitor ∧ (s.judgeLatch).recorder = s.recorder ∧ (s.judgeLatch).agent = s.agent ∧
    (s.judgeLatch).tables = s.tables ∧ (s.judgeLatch).pending = s.pending ∧ (s.judgeLatch).draws = s.draws := by
  unfold State.judgeLatch
  split <;> simp

@[simp] theorem State.loseSource_keeps (d : SourceSlot) (s : State) :
    (s.loseSource d).time = s.time ∧ (s.loseSource d).speed = s.speed ∧ (s.loseSource d).tables = s.tables ∧
    (s.loseSource d).pending = s.pending := by
  unfold State.loseSource
  simp

@[simp] theorem takeDemand_keeps (d : SourceSlot) (c : Count) (f : Frame) (s : State) :
    (takeDemand d c f s).time = s.time ∧ (takeDemand d c f s).speed = s.speed ∧
    (takeDemand d c f s).tables = s.tables ∧ (takeDemand d c f s).pending = s.pending := by
  unfold takeDemand
  simp only
  split
  · simp
  · split
    · simp
    · split <;> simp

/-! ## Speed unit -/

@[simp] theorem State.referenceReaders_keeps (s : State) :
    (s.referenceReaders).time = s.time ∧ (s.referenceReaders).speed = s.speed ∧
    (s.referenceReaders).tables = s.tables ∧ (s.referenceReaders).pending = s.pending := by
  unfold State.referenceReaders
  exact State.withMonitor_keeps (fun t => t.time = s.time ∧ t.speed = s.speed ∧ t.tables = s.tables ∧ t.pending = s.pending) _
    (by simp) (by simp) (by simp) _ (by simp)

@[simp] theorem State.holdReference_keeps (s : State) :
    (s.holdReference).time = s.time ∧ (s.holdReference).demand = s.demand ∧ (s.holdReference).blend = s.blend ∧
    (s.holdReference).slide = s.slide ∧ (s.holdReference).order = s.order ∧ (s.holdReference).recorder = s.recorder ∧
    (s.holdReference).agent = s.agent ∧ (s.holdReference).tables = s.tables ∧ (s.holdReference).pending = s.pending ∧
    (s.holdReference).draws = s.draws := by
  unfold State.holdReference
  split <;> simp

@[simp] theorem State.loseLastValid_keeps (s : State) :
    (s.loseLastValid).time = s.time ∧ (s.loseLastValid).tables = s.tables ∧ (s.loseLastValid).pending = s.pending := by
  unfold State.loseLastValid
  simp

@[simp] theorem State.expireReference_keeps (s : State) :
    (s.expireReference).time = s.time ∧ (s.expireReference).tables = s.tables ∧
    (s.expireReference).pending = s.pending := by
  unfold State.expireReference
  simp

@[simp] theorem State.frameUpdate_keeps (c : Count) (s : State) :
    (s.frameUpdate c).time = s.time ∧ (s.frameUpdate c).tables = s.tables ∧ (s.frameUpdate c).pending = s.pending := by
  unfold State.frameUpdate
  split <;> simp

@[simp] theorem State.faultEntry_keeps (i : AxleSlot) (s : State) :
    (s.faultEntry i).time = s.time ∧ (s.faultEntry i).demand = s.demand ∧ (s.faultEntry i).blend = s.blend ∧
    (s.faultEntry i).order = s.order ∧ (s.faultEntry i).recorder = s.recorder ∧ (s.faultEntry i).agent = s.agent ∧
    (s.faultEntry i).tables = s.tables ∧ (s.faultEntry i).pending = s.pending ∧ (s.faultEntry i).draws = s.draws := by
  unfold State.faultEntry
  simp only
  split <;> simp

theorem takeEntry_keeps (a b : AxleSlot) (c : Count) (l : List Nat) (e : RawEntry) (s : State) :
    (takeEntry a b c l e s).1.time = s.time ∧ (takeEntry a b c l e s).1.demand = s.demand ∧
    (takeEntry a b c l e s).1.blend = s.blend ∧ (takeEntry a b c l e s).1.order = s.order ∧
    (takeEntry a b c l e s).1.recorder = s.recorder ∧ (takeEntry a b c l e s).1.agent = s.agent ∧
    (takeEntry a b c l e s).1.tables = s.tables ∧ (takeEntry a b c l e s).1.pending = s.pending ∧
    (takeEntry a b c l e s).1.draws = s.draws := by
  unfold takeEntry
  simp only
  split
  · simp
  · split
    · split <;> simp
    · simp

theorem takeEntries_keeps (a b : AxleSlot) (c : Count) (es : List RawEntry) (l : List Nat) (s : State) :
    (takeEntries a b c l es s).1.time = s.time ∧ (takeEntries a b c l es s).1.demand = s.demand ∧
    (takeEntries a b c l es s).1.blend = s.blend ∧ (takeEntries a b c l es s).1.order = s.order ∧
    (takeEntries a b c l es s).1.recorder = s.recorder ∧ (takeEntries a b c l es s).1.agent = s.agent ∧
    (takeEntries a b c l es s).1.tables = s.tables ∧ (takeEntries a b c l es s).1.pending = s.pending ∧
    (takeEntries a b c l es s).1.draws = s.draws := by
  induction es generalizing l s with
  | nil => simp [takeEntries]
  | cons e es ih =>
    have := takeEntry_keeps a b c l e s
    simp only [takeEntries, ih, this, and_self]

@[simp] theorem handOnAll_keeps (os : List Outcome5) (s : State) :
    (handOnAll os s).time = s.time ∧ (handOnAll os s).speed = s.speed ∧ (handOnAll os s).tables = s.tables ∧
    (handOnAll os s).pending = s.pending := by
  induction os generalizing s with
  | nil => simp [handOnAll]
  | cons o os ih => cases o <;> simp [handOnAll, ih]

@[simp] theorem takeList_keeps (a b : AxleSlot) (c : Count) (p : List Byte) (s : State) :
    (takeList a b c p s).1.time = s.time ∧ (takeList a b c p s).1.tables = s.tables ∧
    (takeList a b c p s).1.pending = s.pending := by
  have := takeEntries_keeps a b c (rawEntries p) [] s
  simp [takeList, this]

@[simp] theorem takeSample_keeps (a b : AxleSlot) (c : Count) (f : Frame) (s : State) :
    (takeSample a b c f s).time = s.time ∧ (takeSample a b c f s).tables = s.tables ∧
    (takeSample a b c f s).pending = s.pending := by
  unfold takeSample
  split <;> simp

@[simp] theorem State.axleLost_keeps (w : Bool) (i : AxleSlot) (s : State) :
    (s.axleLost w i).time = s.time ∧ (s.axleLost w i).tables = s.tables ∧ (s.axleLost w i).pending = s.pending := by
  unfold State.axleLost
  split
  · split <;> simp
  · simp

@[simp] theorem State.ageAxle_keeps (i : AxleSlot) (s : State) :
    (s.ageAxle i).time = s.time ∧ (s.ageAxle i).tables = s.tables ∧ (s.ageAxle i).pending = s.pending := by
  unfold State.ageAxle
  simp

@[simp] theorem State.resetAxle_keeps (i : AxleSlot) (s : State) :
    (s.resetAxle i).time = s.time ∧ (s.resetAxle i).tables = s.tables ∧ (s.resetAxle i).pending = s.pending := by
  unfold State.resetAxle
  simp

/-! ## Forwarder -/

@[simp] theorem takeReport_keeps (n : NodeSlot) (c : Count) (f : Frame) (s : State) :
    (takeReport n c f s).time = s.time ∧ (takeReport n c f s).speed = s.speed ∧
    (takeReport n c f s).tables = s.tables ∧ (takeReport n c f s).pending = s.pending ∧
    (takeReport n c f s).draws = s.draws := by
  unfold takeReport
  simp only
  split
  · simp
  · split <;> simp

@[simp] theorem handToRole_keeps (r : Role) (c : Count) (f : Frame) (s : State) :
    (handToRole r c f s).tables = s.tables ∧ (handToRole r c f s).pending = s.pending := by
  cases r <;> simp [handToRole]

@[simp] theorem State.takeOwn_keeps (p : Port) (c : Count) (f : Frame) (s : State) :
    (s.takeOwn p c f).tables = s.tables ∧ (s.takeOwn p c f).pending = s.pending := by
  unfold State.takeOwn
  split
  · simp
  · split <;> simp

@[simp] theorem State.takeOther_keeps (p : Port) (c : Count) (f : Frame) (s : State) :
    (s.takeOther p c f).tables = s.tables ∧ (s.takeOther p c f).pending = s.pending := by
  unfold State.takeOther
  split
  · simp
  · split
    · simp
    · simp
    · simp
    · split <;> simp

@[simp] theorem State.takeRequest_keeps (r : Request) (s : State) :
    (s.takeRequest r).time = s.time ∧ (s.takeRequest r).speed = s.speed ∧ (s.takeRequest r).demand = s.demand ∧
    (s.takeRequest r).blend = s.blend ∧ (s.takeRequest r).slide = s.slide ∧ (s.takeRequest r).order = s.order ∧
    (s.takeRequest r).monitor = s.monitor ∧ (s.takeRequest r).recorder = s.recorder ∧
    (s.takeRequest r).tables = s.tables ∧ (s.takeRequest r).pending = s.pending ∧ (s.takeRequest r).draws = s.draws := by
  unfold State.takeRequest
  split <;> simp

@[simp] theorem State.classify_keeps (p : Port) (c : Count) (f : Frame) (s : State) :
    (s.classify p c f).tables = s.tables ∧ (s.classify p c f).pending = s.pending := by
  unfold State.classify
  split
  · split <;> simp
  · split <;> simp

@[simp] theorem State.receive_keeps (p : Port) (c : Count) (f : Frame) (s : State) :
    (s.receive p c f).tables = s.tables ∧ (s.receive p c f).pending = s.pending := by
  unfold State.receive
  split <;> simp

end Sys2Proof.Machine
end

