-- ==== Sys2Proof/Laws/Services.lean ====
section
/-! SUPPORT. What the service of the request at the head of the queue comes to (R166): one lemma for a request of another kind, one
for a refused request, one for a served one, and what the offer of a response leaves of the agent's queue. -/

namespace Sys2Proof.Machine

/-- A number laid out as bytes has as many as asked for. -/
@[simp] theorem toBytes_length (n v : Nat) : (toBytes n v).length = n := by
  induction n with
  | zero => rfl
  | succ n ih => simp [toBytes, ih]

/-- The head request's kind is the one asked for. -/
theorem State.asks_ofKind {s : State} {r : Request} {rest : List Request} {k k' : Byte} (h : s.asks r rest k) (hk : k = k') :
    ofKind k' r = true := by
  simp [ofKind, h.2, hk]

/-- The service of a head request that `mine` knows. -/
theorem serve_head {mine : Request → Bool} {act : Request → State → Answer} {s : State} {r : Request} {rest : List Request}
    (hq : s.agent.queue = r :: rest) (hm : mine r = true) : serve mine act s = ((act r s).send r).popRequest := by
  simp [serve, hq, hm]

/-- With an empty queue there is nothing to serve. -/
theorem serve_empty {mine : Request → Bool} {act : Request → State → Answer} {s : State} (hq : s.agent.queue = []) :
    serve mine act s = s := by
  simp [serve, hq]

/-- A head request that `mine` does not know is left. -/
theorem serve_other {mine : Request → Bool} {act : Request → State → Answer} {s : State} {r : Request} {rest : List Request}
    (hq : s.agent.queue = r :: rest) (hm : mine r = false) : serve mine act s = s := by
  simp [serve, hq, hm]

/-- What an answer that completes no readout sends is its response. -/
theorem Answer.send_plain (a : Answer) (r : Request) (h : a.reads = none) : a.send r = a.state.respond r a.status a.data := by
  simp [Answer.send, h, State.markRead]

/-- A refused request is answered with its status and no data, and nothing else changes (R167). -/
theorem serve_refuse {mine : Request → Bool} {act : Request → State → Answer} {s : State} {r : Request} {rest : List Request}
    {st : Status} (hq : s.agent.queue = r :: rest) (hm : mine r = true) (ha : act r s = refuse s st) :
    serve mine act s = s.replied r st [] := by
  rw [serve_head hq hm, ha, Answer.send_plain _ _ rfl]
  rfl

/-- A request served with effects `u` and data is answered OK (R166, R167). -/
theorem serve_answer {mine : Request → Bool} {act : Request → State → Answer} {s u : State} {r : Request} {rest : List Request}
    {data : List Byte} (hq : s.agent.queue = r :: rest) (hm : mine r = true) (ha : act r s = answer u data) :
    serve mine act s = u.replied r .ok data := by
  rw [serve_head hq hm, ha, Answer.send_plain _ _ rfl]
  rfl

/-- A served request leaves every block but the links and the agent as its effects left them, and of the agent all but the
queue. -/
@[simp] theorem State.replied_keeps (s : State) (r : Request) (st : Status) (data : List Byte) :
    (s.replied r st data).time = s.time ∧ (s.replied r st data).speed = s.speed ∧
    (s.replied r st data).demand = s.demand ∧ (s.replied r st data).blend = s.blend ∧
    (s.replied r st data).slide = s.slide ∧ (s.replied r st data).order = s.order ∧
    (s.replied r st data).monitor = s.monitor ∧ (s.replied r st data).recorder = s.recorder ∧
    (s.replied r st data).tables = s.tables ∧ (s.replied r st data).pending = s.pending ∧
    (s.replied r st data).draws = s.draws ∧
    (s.replied r st data).agent = { s.agent with queue := s.agent.queue.drop 1 } := by
  simp [State.replied, State.popRequest]

end Sys2Proof.Machine
end

