-- ==== Sys2Proof/Laws/Closure.lean ====
section
/-! SUPPORT. The induction over the commands, packaged once: what every elementary effect keeps, every command keeps. `KeptWithin`
lists the effects an event can have once a received frame has been counted, `Kept` adds those of the other commands; `Kept.step` is
the induction. An invariant is proved by proving the fields. -/

namespace Sys2Proof.Machine

/-- The elementary effects of a monitor pass, and the taking of a free value, keep `P`. -/
structure KeptByPasses (P : State → Prop) : Prop where
  drawn : ∀ s, P s → P s.drawn
  raise : ∀ e s, P s → P (s.raise e)
  trigger : ∀ c s, c ≠ .failsafeEntry → P s → P (s.trigger c)
  failsafe : ∀ c n s, s.agent.part = .run → P s →
    P (State.leaveRun .failsafe (State.setCause c n (s.trigger .failsafeEntry)))
  run : ∀ m r s, P s → P (s.setRun m r)
  fallback : ∀ b s, P s → P { s with blend := { s.blend with fallback := b } }

/-- The elementary effects of the handling of one event keep `P`. -/
structure KeptWithin (P : State → Prop) : Prop extends KeptByPasses P where
  axleSpeed : ∀ i f s, P s → P (s.onAxleSpeed i f)
  ref : ∀ r s, P s → P (s.setRef r)
  demand : ∀ s, P s → P (s.setEff s.formDemand)
  source : ∀ d q p c s, s.agent.part = .run → p.level ≤ 1000 → p.floor ≤ 500 → P s →
    P (s.onSource d fun _ => acceptedSource q p c s.now s.tables.blend.demandLoss)
  restAxle : ∀ i s, P s → P (s.restAxle i)
  slip : ∀ i v s, P s → P (s.onAxleSlide i (AxleSlide.withSlip v))
  evaluated : ∀ g s, P s → P (s.onAxleSlide g.axle fun _ => s.evaluated g)
  extra : ∀ s, s.agent.part = .run → P s → P (s.takeEpoch .extra)
  report : ∀ n c g x y z s, s.agent.part = .run → P s → P (s.matchReport n c g x y z)
  time : ∀ t s, P s → P { s with time := t }
  overflow : ∀ p s, P s → P (s.countOverflow p)
  unclaimed : ∀ s, P s → P s.countUnclaimed
  demandRefused : ∀ s, P s → P s.countDemandRefused
  sampleRefused : ∀ s, P s → P s.countSampleRefused
  reportRefused : ∀ s, P s → P s.countReportRefused
  responseDropped : ∀ s, P s → P s.countResponseDropped
  accept : ∀ p o d k b s, s.hasRoom p = true → P s → P (s.accept p o d k b)
  forward : ∀ p f s, s.forwardRoom p = true → P s → P (s.placeForward p f)
  push : ∀ r s, s.agent.queue.length < 4 → P s → P { s with agent := { s.agent with queue := s.agent.queue ++ [r] } }

/-- The elementary effects of every command keep `P`. -/
structure Kept (P : State → Prop) : Prop extends KeptWithin P where
  pending : ∀ q s, P s → P (s.withPending q)
  powerOn : ∀ x l s, P s → P { State.powerOn x l with pending := s.pending, draws := s.draws }
  rx : ∀ p x s, P s → P (s.onPort p fun y => { y with rx := x })
  good : ∀ p s, P s → P (s.countGood p)
  badForm : ∀ p s, P s → P (s.countBadForm p)
  badCheck : ∀ p s, P s → P (s.countBadCheck p)
  completed : ∀ p s, (s.port p).line ≠ .idle → P s → P (s.onPort p PortState.completed)
  clear : ∀ s, P s → P s.clearLinkCounters
  loseSource : ∀ d s, s.demand.sources[d].timer.due s.now = true → P s → P (s.onSource d SourceRec.lose)
  regular : ∀ s, s.blend.timer.due s.now = true → P s → P s.regularEpoch
  holdExpiry : ∀ i s, s.slide.axles[i].holdTimer.due s.now = true → P s →
    P (s.onAxleSlide i (holdExpired s.tables.slide s.now))
  lockOut : ∀ t s, s.slide.trucks[t].timer.due s.now = true → P s → P (s.onTruckSlide t TruckSlide.lockOut)
  missDeadline : ∀ n s, (s.node n).exch.deadline.due s.now = true → P s → P (s.missDeadline n)
  controlLoss : ∀ s, s.order.controlLoss.due s.now = true → P s → P { s with order := { s.order with controlLoss := none } }
  line : ∀ l e d s, P s → P (s.setRecorder { s.recorder with lineActive := l, edge := e, debounce := d })
  pop : ∀ s, P s → P s.popRequest
  part : ∀ p s, s.agent.part ≠ .run → p ≠ .run → P s → P (s.withPart p)
  validation : ∀ n s, P s → P (s.withValidation n)
  enterRun : ∀ s, s.agent.part = .config → s.tables.validate = 0 → P s → P s.enterRun
  leave : ∀ p s, s.agent.part = .run → p ≠ .run → P s → P (s.leaveRun p)
  write : ∀ e d t s, s.agent.part ≠ .run → s.tables.written s.link.own e d = some t → P s → P { s with tables := t }
  load : ∀ c s, s.agent.part ≠ .run → P s → P (s.loadCount c)
  readEvents : ∀ s, P s → P (s.setEvents (s.monitor.events.drop 4))
  cut : ∀ n s, P s → P (s.cutNode n)
  restore : ∀ n s, P s → P (s.restoreNode n)
  markRead : ∀ n s, P s → P (s.markRead n)
  release : ∀ n s, P s → P (s.release n)
  softReset : ∀ a b s, s.agent.part ≠ .run → P s → a.length ≤ 1 → b.length ≤ 1 →
    ((s.port .a).line = .idle → a = []) → ((s.port .b).line = .idle → b = []) → P (s.softReset a b)

variable {P : State → Prop}

/-! ## Within one event -/

namespace KeptByPasses

theorem enterFailsafe (h : KeptByPasses P) (c : FailsafeCause) (n : Nat) (s : State) (hs : P s) : P (s.enterFailsafe c n) := by
  unfold State.enterFailsafe
  split
  · rename_i hr
    exact h.raise _ _ (h.failsafe _ _ _ (by simpa [State.running] using hr) hs)
  · exact hs

theorem setFallback (h : KeptByPasses P) (s : State) (hs : P s) : P s.setFallback := by
  unfold State.setFallback
  split
  · exact hs
  · exact h.raise _ _ (h.fallback _ _ hs)

theorem fire (h : KeptByPasses P) (m : Fin 8) (e : MonEntry) (s : State) (hs : P s) : P (s.fire m e) := by
  unfold State.fire
  have h1 : P (if e.event then s.raise (.monitor m) else s) := by
    split
    · exact h.raise _ _ hs
    · exact hs
  have h2 : P (if e.record then (if e.event then s.raise (.monitor m) else s).trigger (.monitor m)
      else if e.event then s.raise (.monitor m) else s) := by
    split
    · exact h.trigger _ _ (by simp) h1
    · exact h1
  simp only
  split
  · exact h.setFallback _ h2
  · exact h2

theorem passEntry (h : KeptByPasses P) (u : Updates) (a : State × Option (Fin 8)) (m : Fin 8) (hs : P a.1) :
    P (State.passEntry u a m).1 := by
  unfold State.passEntry
  simp only
  split
  · exact hs
  · split
    · split
      · exact h.fire _ _ _ (h.run _ _ _ hs)
      · exact h.run _ _ _ hs
    · exact hs

theorem monitorPass (h : KeptByPasses P) (u : Updates) (s : State) (hs : P s) : P (s.monitorPass u) := by
  unfold State.monitorPass
  split
  · have hr : P (monitorEntries.foldl (State.passEntry u) (s, none)).1 :=
      foldl_keeps (fun a => P a.1) _ (fun a m => h.passEntry u a m) _ _ hs
    simp only
    split
    · exact hr
    · exact h.enterFailsafe _ _ _ hr
  · exact hs

theorem withMonitor (h : KeptByPasses P) (u : Updates) {f : State → State} (hf : ∀ s, P s → P (f s)) (s : State) (hs : P s) :
    P (s.withMonitor u f) :=
  State.withMonitor_keeps P u h.drawn hf (h.monitorPass u) s hs

/-- What the computation of an epoch, the order unit, the recorder and the monitor keep, the epoch keeps (R71, R87). -/
theorem takeEpoch (h : KeptByPasses P) (ho : ∀ n s, s.agent.part = .run → P s → P (State.orderNode s n))
    (hx : ∀ s, P s → P s.takeSnapshot) (k : EpochKind) (s : State) (hs : P (s.computeEpoch k)) : P (s.takeEpoch k) := by
  refine State.unordered3_keeps P h.drawn ?_ hx (fun s hs => h.monitorPass _ s hs) _ hs
  intro s hs
  unfold State.orderAll
  split
  · rename_i hr
    exact (foldl_keeps (fun s => s.agent.part = .run ∧ P s) State.orderNode
      (fun s n hp => ⟨by simp [hp.1], ho n s hp.1 hp.2⟩) _ _ ⟨by simpa [State.running] using hr, hs⟩).2
  · exact hs

end KeptByPasses

namespace KeptWithin

theorem respond (h : KeptWithin P) (r : Request) (st : Status) (d : List Byte) (s : State) (hs : P s) : P (s.respond r st d) := by
  unfold State.respond
  split
  · exact h.accept _ _ _ _ _ _ ‹_› hs
  · exact h.responseDropped _ hs

theorem judgeLatch (h : KeptWithin P) (s : State) (hs : P s) : P s.judgeLatch := by
  unfold State.judgeLatch
  split
  · exact h.demand _ hs
  · exact hs

theorem referenceReaders (h : KeptWithin P) (s : State) (hs : P s) : P s.referenceReaders :=
  h.withMonitor _ h.judgeLatch s hs

theorem extraEpoch (h : KeptWithin P) (s : State) (hs : P s) : P s.extraEpoch := by
  unfold State.extraEpoch
  split
  · rename_i hr
    exact h.extra _ (by simpa [State.running] using hr) hs
  · exact hs

theorem enterEmergency (h : KeptWithin P) (s : State) (hs : P s) : P s.enterEmergency :=
  State.unordered3_keeps P h.drawn (h.raise _) (fun s => h.trigger _ s (by simp)) h.extraEpoch s hs

theorem recompute (h : KeptWithin P) (s : State) (hs : P s) : P s.recompute := by
  unfold State.recompute
  simp only
  split
  · exact h.enterEmergency _ (h.demand _ hs)
  · exact h.demand _ hs

theorem takeDemand (h : KeptWithin P) (d : SourceSlot) (c : Count) (f : Frame) (s : State) (hr : s.agent.part = .run)
    (hs : P s) : P (Machine.takeDemand d c f s) := by
  unfold Machine.takeDemand
  simp only
  split
  · exact h.demandRefused _ hs
  · split
    · exact h.demandRefused _ hs
    · split
      · exact hs
      · exact h.recompute _ (h.source _ _ _ _ _ hr (Nat.min_le_right _ _) (Nat.min_le_right _ _) hs)

theorem holdReference (h : KeptWithin P) (s : State) (hs : P s) : P s.holdReference := by
  unfold State.holdReference
  split
  · exact h.raise _ _ (h.ref _ _ hs)
  · exact hs

theorem loseLastValid (h : KeptWithin P) (s : State) (hs : P s) : P s.loseLastValid :=
  h.referenceReaders _ (h.holdReference _ hs)

theorem expireReference (h : KeptWithin P) (s : State) (hs : P s) : P s.expireReference :=
  h.referenceReaders _ (h.raise _ _ (h.ref _ _ hs))

theorem frameUpdate (h : KeptWithin P) (c : Count) (s : State) (hs : P s) : P (s.frameUpdate c) := by
  unfold State.frameUpdate
  refine h.referenceReaders _ ?_
  split
  · exact h.ref _ _ hs
  · exact h.holdReference _ hs

theorem faultEntry (h : KeptWithin P) (i : AxleSlot) (s : State) (hs : P s) : P (s.faultEntry i) := by
  unfold State.faultEntry
  refine h.raise _ _ ?_
  split
  · exact h.restAxle _ _ (h.axleSpeed _ _ _ hs)
  · exact h.axleSpeed _ _ _ hs

theorem takeEntry (h : KeptWithin P) (a b : AxleSlot) (c : Count) (l : List Nat) (e : RawEntry) (s : State) (hs : P s) :
    P (Machine.takeEntry a b c l e s).1 := by
  unfold Machine.takeEntry
  split
  · exact h.sampleRefused _ hs
  · simp only
    split
    · split
      · exact h.faultEntry _ _ hs
      · exact h.axleSpeed _ _ _ hs
    · exact h.sampleRefused _ hs

theorem takeEntries (h : KeptWithin P) (a b : AxleSlot) (c : Count) :
    ∀ (es : List RawEntry) (l : List Nat) (s : State), P s → P (Machine.takeEntries a b c l es s).1
  | [], _, _, hs => hs
  | e :: es, l, s, hs => h.takeEntries a b c es (e.slot :: l) _ (h.takeEntry a b c l e s hs)

theorem evaluateSlide (h : KeptWithin P) (g : GoodEntry) (s : State) (hs : P s) : P (s.evaluateSlide g) := by
  unfold State.evaluateSlide
  simp only
  split
  · exact h.trigger _ _ (by simp) (h.raise _ _ (h.evaluated _ _ hs))
  · exact h.evaluated _ _ hs

theorem handOn (h : KeptWithin P) (g : GoodEntry) (s : State) (hs : P s) : P (s.handOn g) :=
  h.withMonitor _ (h.evaluateSlide g) _ (h.slip _ _ _ hs)

theorem handOnAll (h : KeptWithin P) : ∀ (os : List Outcome5) (s : State), P s → P (Machine.handOnAll os s)
  | [], _, hs => hs
  | .good g :: os, s, hs => h.handOnAll os _ (h.handOn g s hs)
  | .refused :: os, s, hs => h.handOnAll os s hs
  | .fault :: os, s, hs => h.handOnAll os s hs

theorem takeList (h : KeptWithin P) (a b : AxleSlot) (c : Count) (p : List Byte) (s : State) (hs : P s) :
    P (Machine.takeList a b c p s).1 :=
  h.handOnAll _ _ (h.frameUpdate _ _ (h.takeEntries a b c _ _ _ hs))

theorem takeSample (h : KeptWithin P) (a b : AxleSlot) (c : Count) (f : Frame) (s : State) (hs : P s) :
    P (Machine.takeSample a b c f s) := by
  unfold Machine.takeSample
  split
  · exact h.takeList _ _ _ _ _ hs
  · exact h.sampleRefused _ hs

theorem takeReport (h : KeptWithin P) (n : NodeSlot) (c : Count) (f : Frame) (s : State) (hr : s.agent.part = .run)
    (hs : P s) : P (Machine.takeReport n c f s) := by
  unfold Machine.takeReport
  simp only
  split
  · exact h.reportRefused _ hs
  · split
    · exact h.monitorPass _ _ (h.report _ _ _ _ _ _ _ hr hs)
    · exact h.report _ _ _ _ _ _ _ hr hs

/-- An effective role that acts only in RUN is met in RUN (Table 1-18). -/
theorem effective_role {e : ClassEntry} {st : PartState} {a : Action} {r : Role} (h : e.effective st = (a, r)) :
    (∀ d, r = .demand d → st = .run) ∧ (∀ n, r = .report n → st = .run) := by
  constructor <;> intro x hx <;> subst hx <;> cases st <;> cases hr : e.role <;> simp_all [ClassEntry.effective]

theorem handToRole (h : KeptWithin P) (r : Role) (c : Count) (f : Frame) (s : State)
    (hd : ∀ d, r = .demand d → s.agent.part = .run) (hn : ∀ n, r = .report n → s.agent.part = .run) (hs : P s) :
    P (Machine.handToRole r c f s) := by
  cases r with
  | noRole => exact hs
  | demand d => exact h.takeDemand _ _ _ _ (hd d rfl) hs
  | axleSample a b => exact h.takeSample _ _ _ _ _ hs
  | report n => exact h.takeReport _ _ _ _ (hn n rfl) hs
  | timeMark => exact h.time _ _ hs

theorem forwardFrom (h : KeptWithin P) (p : Port) (f : Frame) (s : State) (hs : P s) : P (s.forwardFrom p f) := by
  unfold State.forwardFrom
  split
  · exact h.forward _ _ _ ‹_› hs
  · exact h.raise _ _ (h.overflow _ _ hs)

theorem takeOwn (h : KeptWithin P) (p : Port) (c : Count) (f : Frame) (s : State) (hs : P s) : P (s.takeOwn p c f) := by
  unfold State.takeOwn
  split
  · exact h.unclaimed _ hs
  · split
    · exact hs
    · exact h.unclaimed _ hs
    · have := effective_role ‹_›
      exact h.handToRole _ _ _ _ this.1 this.2 hs

theorem takeOther (h : KeptWithin P) (p : Port) (c : Count) (f : Frame) (s : State) (hs : P s) : P (s.takeOther p c f) := by
  unfold State.takeOther
  have hf := h.forwardFrom p f s hs
  have ha : (s.forwardFrom p f).agent = s.agent := by simp
  split
  · exact hf
  · split
    · exact hs
    · exact hf
    · have := effective_role ‹_›
      exact h.handToRole _ _ _ _ (by rw [ha]; exact this.1) (by rw [ha]; exact this.2) hf
    · have := effective_role ‹_›
      split
      · exact h.handToRole _ _ _ _ (by rw [ha]; exact this.1) (by rw [ha]; exact this.2) hf
      · exact h.handToRole _ _ _ _ this.1 this.2 hs

theorem takeRequest (h : KeptWithin P) (r : Request) (s : State) (hs : P s) : P (s.takeRequest r) := by
  unfold State.takeRequest
  split
  · exact h.push _ _ ‹_› hs
  · exact h.respond _ _ _ _ hs

theorem axleLost (h : KeptWithin P) (w : Bool) (i : AxleSlot) (s : State) (hs : P s) : P (s.axleLost w i) := by
  unfold State.axleLost
  split
  · split
    · exact h.restAxle _ _ hs
    · exact h.loseLastValid _ (h.restAxle _ _ hs)
  · exact hs

theorem ageAxle (h : KeptWithin P) (i : AxleSlot) (s : State) (hs : P s) : P (s.ageAxle i) :=
  h.axleLost _ _ _ (h.axleSpeed _ _ _ hs)

theorem resetAxle (h : KeptWithin P) (i : AxleSlot) (s : State) (hs : P s) : P (s.resetAxle i) :=
  h.axleLost _ _ _ (h.axleSpeed _ _ _ hs)

end KeptWithin

/-! ## Over the commands -/

/-- A line that is IDLE after the arbiter has settled leaves nothing originated behind. -/
theorem PortState.settle_idle (x : PortState) (h : x.settle.line = .idle) : x.settle.originated = [] := by
  unfold PortState.settle PortState.choose PortState.takeForward PortState.takeOriginated at *
  split at h <;> simp_all
  split at h <;> simp_all
  split at h <;> simp_all

/-- A port whose line is IDLE once it has been offered a response has no originated frame left. -/
theorem State.respond_idle (s : State) (r : Request) (st : Status) (d : List Byte) (hroom : s.hasRoom r.port = true)
    (hl : ((s.respond r st d).port r.port).line = .idle) : ((s.respond r st d).port r.port).originated = [] := by
  have he : ∃ x : PortState, (s.respond r st d).port r.port = x.settle := by
    unfold State.respond State.accept
    simp only [hroom, if_true]
    cases r.port
    · exact ⟨_, rfl⟩
    · exact ⟨_, rfl⟩
  obtain ⟨x, hx⟩ := he
  rw [hx] at hl ⊢
  exact PortState.settle_idle x hl

/-- An accepted SET_STATE has the effects it is given. -/
theorem accepted_state (s : State) : (accepted s).state = s := rfl

namespace Kept

theorem receive (h : Kept P) (p : Port) (c : Count) (f : Frame) (s : State) (hs : P s) : P (State.receive p c f s) := by
  unfold State.receive
  split
  · exact h.badForm _ _ hs
  · exact h.badCheck _ _ hs
  · unfold State.classify
    split
    · split
      · exact h.badForm _ _ hs
      · exact h.takeRequest _ _ (h.good _ _ hs)
    · split
      · exact h.takeOwn _ _ _ _ (h.good _ _ hs)
      · exact h.takeOther _ _ _ _ (h.good _ _ hs)

/-- What the effects of a request keep, its service keeps. -/
theorem serve (h : Kept P) (mine : Request → Bool) (act : Request → State → Answer) (s : State) (hs : P s)
    (ha : ∀ r, P (act r s).state) : P (serve mine act s) := by
  unfold Machine.serve
  split
  · exact hs
  · split
    · refine h.pop _ ?_
      unfold Answer.send
      split
      · exact h.markRead _ _ (h.respond _ _ _ _ (ha _))
      · exact h.respond _ _ _ _ (ha _)
    · exact hs

theorem onExpiry (_ : Kept P) {t : Timer} {s u : State} {f : State → State} (he : Machine.onExpiry t s f = .next u)
    (hs : P s) (hf : t.due s.now = true → P (f s)) : P u := by
  unfold Machine.onExpiry at he
  obtain rfl := Host.Outcome.next.inj he
  split
  · exact hf ‹_›
  · exact hs

theorem changeState (h : Kept P) (p : PartState) (s : State) (hs : P s) : P (s.changeState p).state := by
  unfold State.changeState
  have leave (q : PartState) (hr : s.agent.part = .run) (hq : q ≠ .run) : P (s.requestLeave q).state := by
    unfold State.requestLeave
    split
    · rw [accepted_state]
      exact h.leave _ _ hr hq hs
    · exact hs
  split <;> rename_i hp
  · exact hs
  · exact h.part _ _ (by simp [hp]) (by simp) hs
  · exact hs
  · exact hs
  · exact h.part _ _ (by simp [hp]) (by simp) hs
  · exact hs
  · unfold State.requestRun
    split
    · rw [accepted_state]
      exact h.enterRun _ hp ‹_› (h.validation _ _ hs)
    · exact h.validation _ _ hs
  · exact hs
  · exact leave _ hp (by simp)
  · exact leave _ hp (by simp)
  · exact hs
  · rw [accepted_state]
    exact h.enterFailsafe _ _ _ hs
  · exact h.part _ _ (by simp [hp]) (by simp) hs
  · exact h.part _ _ (by simp [hp]) (by simp) hs
  · exact hs
  · exact hs

theorem reset (h : Kept P) (s t : State) (hs : P s) (he : execReset s = .next t) : P t := by
  obtain rfl := Host.Outcome.next.inj he
  split
  · exact hs
  · rename_i r rest hq
    split
    · split
      · exact h.pop _ (h.respond _ _ _ _ hs)
      · split
        · exact h.pop _ (h.respond _ _ _ _ hs)
        · rename_i hr
          have hk : (keptResponse (s.hasRoom r.port) ((s.respond r .ok []).port r.port)).length ≤ 1 := by
            unfold keptResponse
            split
            · simp; omega
            · simp
          have hi : ((s.respond r .ok []).port r.port).line = .idle →
              keptResponse (s.hasRoom r.port) ((s.respond r .ok []).port r.port) = [] := by
            intro hl
            unfold keptResponse
            split
            · rw [State.respond_idle s r .ok [] ‹_› hl]
              rfl
            · rfl
          have hrun : (s.respond r .ok []).agent.part ≠ .run := by simpa [State.running] using hr
          cases hport : r.port <;> rw [hport] at hk hi <;>
            first
            | exact h.softReset _ _ _ hrun (h.respond _ _ _ _ hs) hk (by simp) hi (by simp)
            | exact h.softReset _ _ _ hrun (h.respond _ _ _ _ hs) (by simp) hk (by simp) hi
    · exact hs

theorem writeEntry (h : Kept P) (r : Request) (s : State) (hs : P s) : P (answerWriteEntry r s).state := by
  unfold answerWriteEntry
  split
  · exact hs
  · split
    · exact hs
    · split
      · exact hs
      · rename_i hr
        unfold State.writeEntry
        split
        · exact hs
        · split
          · exact hs
          · rename_i t ht
            have hw := h.write _ _ _ _ (by simpa [State.running] using hr) ht hs
            show P (State.afterWrite _ _)
            unfold State.afterWrite
            split
            · exact h.resetAxle _ _ hw
            · exact h.run _ _ _ hw
            all_goals exact hw

/-- What every elementary effect keeps, every command keeps. -/
theorem exec (h : Kept P) (c : Instr) (s t : State) (hs : P s) (he : exec c s = .next t) : P t := by
  cases c with
  | powerOnReset x l => obtain rfl := Host.Outcome.next.inj he; exact h.powerOn _ _ _ hs
  | receptionStart p => obtain rfl := Host.Outcome.next.inj he; exact h.rx _ _ _ hs
  | frameArrival p f =>
    simp only [Machine.exec, execFrameArrival] at he
    split at he <;> obtain rfl := Host.Outcome.next.inj he
    · exact hs
    · exact h.receive _ _ _ _ (h.rx _ _ _ hs)
  | transmissionComplete p =>
    obtain rfl := Host.Outcome.next.inj he
    split
    · exact hs
    · exact h.completed _ _ ‹_› hs
  | countStep => obtain rfl := Host.Outcome.next.inj he; exact h.time _ _ hs
  | axleAgeExpiry i => exact h.onExpiry he hs fun _ => h.ageAxle _ _ hs
  | referenceHoldExpiry => exact h.onExpiry he hs fun _ => h.expireReference _ hs
  | demandLossExpiry d =>
    exact h.onExpiry he hs fun hd => h.recompute _ (h.trigger _ _ (by simp) (h.raise _ _ (h.loseSource _ _ hd hs)))
  | epochTimerExpiry => exact h.onExpiry he hs fun hd => h.regular _ hd hs
  | slideHoldExpiry i =>
    obtain rfl := Host.Outcome.next.inj he
    split
    · exact h.holdExpiry _ _ ‹_› hs
    · exact hs
  | reliefLockoutExpiry k =>
    obtain rfl := Host.Outcome.next.inj he
    split
    · exact h.raise _ _ (h.lockOut _ _ ‹_› hs)
    · exact hs
  | exchangeDeadlineExpiry n => exact h.onExpiry he hs fun hd => h.missDeadline _ _ hd hs
  | controlLossExpiry =>
    obtain rfl := Host.Outcome.next.inj he
    split
    · exact h.enterFailsafe _ _ _ (h.controlLoss _ ‹_› hs)
    · exact hs
  | lineActiveEdge =>
    obtain rfl := Host.Outcome.next.inj he
    split
    · exact hs
    · exact h.line _ _ _ _ hs
  | lineInactiveEdge =>
    obtain rfl := Host.Outcome.next.inj he
    split
    · exact h.line _ _ _ _ hs
    · exact hs
  | lineDebounceExpiry =>
    obtain rfl := Host.Outcome.next.inj he
    split
    · exact h.trigger _ _ (by simp) (h.line _ _ _ s hs)
    · exact hs
  | getState =>
    obtain rfl := Host.Outcome.next.inj he
    refine h.serve _ _ _ hs fun r => ?_
    unfold answerGetState
    split <;> exact hs
  | setState =>
    obtain rfl := Host.Outcome.next.inj he
    refine h.serve _ _ _ hs fun r => ?_
    unfold answerSetState
    split
    · exact hs
    · split
      · exact hs
      · exact h.changeState _ _ hs
  | readEntry =>
    obtain rfl := Host.Outcome.next.inj he
    refine h.serve _ _ _ hs fun r => ?_
    unfold answerReadEntry
    split
    · exact hs
    · split <;> exact hs
  | writeEntry =>
    obtain rfl := Host.Outcome.next.inj he
    exact h.serve _ _ _ hs fun r => h.writeEntry _ _ hs
  | readStatusPart =>
    obtain rfl := Host.Outcome.next.inj he
    refine h.serve _ _ _ hs fun r => ?_
    have h2 := h.drawn _ (h.drawn _ hs)
    unfold answerReadStatusPart
    split
    · exact hs
    · split
      · exact hs
      · split
        · exact hs
        · unfold State.partPage
          split
          · exact h2
          · exact h2
          · exact hs
          · exact hs
          · exact hs
  | readStatusNodes =>
    obtain rfl := Host.Outcome.next.inj he
    refine h.serve _ _ _ hs fun r => ?_
    unfold answerReadStatusNodes
    split
    · exact hs
    · split <;> exact hs
  | readStatusLink =>
    obtain rfl := Host.Outcome.next.inj he
    refine h.serve _ _ _ hs fun r => ?_
    unfold answerReadStatusLink
    repeat' split
    · exact hs
    · exact hs
    · exact hs
    · show P (if _ then _ else _)
      split
      · exact h.clear _ hs
      · exact hs
  | readStatusSpeed =>
    obtain rfl := Host.Outcome.next.inj he
    refine h.serve _ _ _ hs fun r => ?_
    unfold answerReadStatusSpeed
    split <;> exact hs
  | readEvents =>
    obtain rfl := Host.Outcome.next.inj he
    refine h.serve _ _ _ hs fun r => ?_
    unfold answerReadEvents
    split
    · exact hs
    · exact h.readEvents _ hs
  | nodeCut =>
    obtain rfl := Host.Outcome.next.inj he
    refine h.serve _ _ _ hs fun r => ?_
    unfold answerNode
    split
    · exact hs
    · split
      · exact h.cut _ _ hs
      · exact hs
  | nodeRestore =>
    obtain rfl := Host.Outcome.next.inj he
    refine h.serve _ _ _ hs fun r => ?_
    unfold answerNode
    split
    · exact hs
    · split
      · exact h.restore _ _ hs
      · exact hs
  | clearFallback =>
    obtain rfl := Host.Outcome.next.inj he
    refine h.serve _ _ _ hs fun r => ?_
    unfold answerClearFallback
    split
    · exact hs
    · exact h.fallback _ _ hs
  | trigger =>
    obtain rfl := Host.Outcome.next.inj he
    refine h.serve _ _ _ hs fun r => ?_
    unfold answerTrigger
    split
    · exact hs
    · split
      · exact h.trigger _ _ (by simp) hs
      · exact hs
  | recordList =>
    obtain rfl := Host.Outcome.next.inj he
    refine h.serve _ _ _ hs fun r => ?_
    unfold answerRecordList
    split <;> exact hs
  | recordHeader =>
    obtain rfl := Host.Outcome.next.inj he
    refine h.serve _ _ _ hs fun r => ?_
    unfold answerRecordHeader
    split
    · exact hs
    · split <;> exact hs
  | recordRead =>
    obtain rfl := Host.Outcome.next.inj he
    refine h.serve _ _ _ hs fun r => ?_
    unfold answerRecordRead
    split
    · exact hs
    · split
      · exact hs
      · split
        · exact hs
        · split
          · exact hs
          · unfold State.snapshotPart
            split
            · exact h.drawn _ hs
            · exact hs
            · exact hs
            · exact hs
  | recordRelease =>
    obtain rfl := Host.Outcome.next.inj he
    refine h.serve _ _ _ hs fun r => ?_
    unfold answerRecordRelease
    split
    · exact hs
    · split
      · exact hs
      · split
        · exact hs
        · exact h.release _ _ hs
  | timeRead =>
    obtain rfl := Host.Outcome.next.inj he
    refine h.serve _ _ _ hs fun r => ?_
    unfold answerTimeRead
    split <;> exact hs
  | timeSet =>
    obtain rfl := Host.Outcome.next.inj he
    refine h.serve _ _ _ hs fun r => ?_
    unfold answerTimeSet
    split
    · exact hs
    · split
      · rename_i hp; exact h.load _ _ (by simp [hp]) hs
      · rename_i hp; exact h.load _ _ (by simp [hp]) hs
      · exact hs
      · exact hs
  | timeCorrect =>
    obtain rfl := Host.Outcome.next.inj he
    refine h.serve _ _ _ hs fun r => ?_
    unfold answerTimeCorrect
    split
    · exact hs
    · split
      · exact hs
      · exact h.time _ _ hs
  | readTimemark =>
    obtain rfl := Host.Outcome.next.inj he
    refine h.serve _ _ _ hs fun r => ?_
    unfold answerReadTimemark
    split
    · exact hs
    · exact h.time _ _ hs
  | injectSample =>
    obtain rfl := Host.Outcome.next.inj he
    refine h.serve _ _ _ hs fun r => ?_
    unfold answerInjectSample
    split
    · split
      · exact h.takeList _ _ _ _ _ hs
      · exact hs
    all_goals exact hs
  | reset => exact h.reset _ _ hs he
  | mgmtUnknownKind =>
    obtain rfl := Host.Outcome.next.inj he
    exact h.serve _ _ _ hs fun r => hs

/-- What every elementary effect keeps, every step keeps. -/
theorem step (h : Kept P) (s t : State) (hs : P s) (he : step s = .next t) : P t := by
  unfold Machine.step at he
  split at he
  · obtain rfl := Host.Outcome.next.inj he
    exact hs
  · exact h.exec _ _ _ (h.pending _ _ hs) he

end Kept

end Sys2Proof.Machine
end

