-- ==== Sys2Proof/Laws/Operations.lean ====
section
/-! SUPPORT. What the shared operations do, one lemma for each way they can go, which the provers cite instead of unfolding them. -/

namespace Sys2Proof.Machine

/-! ## Expiries -/

/-- A timer that is due has its expiry taken (R25). -/
theorem onExpiry_due {t : Timer} {s : State} (f : State → State) (h : t.due s.now = true) : onExpiry t s f = .next (f s) := by
  simp [onExpiry, h]

/-- A timer that is stopped or not due has none (R25). -/
theorem onExpiry_waiting {t : Timer} {s : State} (f : State → State) (h : ¬ t.due s.now) : onExpiry t s f = .next s := by
  simp [onExpiry, h]

/-! ## Ports -/

/-- A SENDING line takes nothing (R19). -/
theorem PortState.settle_sending {x : PortState} (h : x.line ≠ .idle) : x.settle = x := by
  simp [PortState.settle, h]

/-- An IDLE line takes the one originated frame that waits (R19). -/
theorem PortState.settle_originated {x : PortState} {o : OrigFrame} (h : x.line = .idle) (hf : x.forward = [])
    (ho : x.originated = [o]) : x.settle = { x with originated := [], line := .sending o.bytes, run := 0 } := by
  simp [PortState.settle, h, PortState.choose, hf, ho, PortState.takeOriginated]

/-- An IDLE line takes the one forward frame that waits (R19). -/
theorem PortState.settle_forward {x : PortState} {f : Frame} (h : x.line = .idle) (hf : x.forward = [f])
    (ho : x.originated = []) : x.settle = { x with forward := [], line := .sending f, run := 0 } := by
  simp [PortState.settle, h, PortState.choose, hf, ho, PortState.takeForward]

/-- What the arbiter leaves in the queues was there before. -/
theorem PortState.settle_sublist (x : PortState) :
    x.settle.originated.Sublist x.originated ∧ x.settle.forward.Sublist x.forward := by
  unfold PortState.settle PortState.choose
  repeat' split
  all_goals simp_all [PortState.takeForward, PortState.takeOriginated]

/-- An offer keeps every originated frame that it does not put on a line, and adds the one it builds (R18, R19). -/
theorem State.accept_originated (s : State) (p q : Port) (o : Origin) (d k : Byte) (b : List Byte) (f : OrigFrame)
    (hf : f ∈ ((s.accept p o d k b).port q).originated) : f ∈ (s.port q).originated ∨ f.origin = o := by
  have key : ∀ x : PortState, ∀ g : OrigFrame, g.origin = o →
      f ∈ (PortState.settle { x with originated := x.originated ++ [g] }).originated → f ∈ x.originated ∨ f.origin = o := by
    intro x g hg hm
    have := (PortState.settle_sublist _).1.subset hm
    simp only [List.mem_append, List.mem_singleton] at this
    rcases this with h | h
    · exact .inl h
    · exact .inr (h ▸ hg)
  cases p <;> cases q
  · exact key _ _ rfl hf
  · exact .inl hf
  · exact .inl hf
  · exact key _ _ rfl hf

/-! ## Events and triggers -/

/-- A raise adds to the pending kinds and indexes, and takes none away (R146). -/
theorem State.isPending_raise (s : State) (e f : EventId) : (s.raise e).isPending f = (s.isPending f || decide (e = f)) := by
  unfold State.raise
  split
  · rename_i h
    by_cases hef : e = f
    · subst hef
      simp only [decide_true, Bool.or_true]
      simp only [State.isPending, State.setEvents_events, List.any_map]
      simp only [State.isPending] at h
      rw [← h]
      congr 1
      funext x
      simp only [Function.comp]
      split <;> rfl
    · simp only [hef, decide_false, Bool.or_false]
      simp only [State.isPending, State.setEvents_events, List.any_map]
      congr 1
      funext x
      simp only [Function.comp]
      split <;> rfl
  · simp [State.isPending]

/-- Outside RUN, or for a cause that is not enabled, a trigger is ignored (R152). -/
theorem State.trigger_ignored {s : State} {c : Cause} (h : s.takesTrigger c = false) : s.trigger c = s := by
  simp [State.trigger, h]

/-- A trigger that finds an incident OPEN extends it (R157). -/
theorem State.trigger_added {s : State} {c : Cause} {x : Incident} (h : s.takesTrigger c = true)
    (hx : s.recorder.openIncident = some x) :
    s.trigger c = s.setRecorder (s.recorder.onOpen
      (retriggered s.tables.recorder c s.now s.recorder.edge (freeSlots s.recorder.incidents))) := by
  simp [State.trigger, h, hx]

/-- A trigger that finds room opens an incident (R153 to R155). -/
theorem State.trigger_opened {s : State} {c : Cause} {kept : List Incident} (h : s.takesTrigger c = true)
    (hx : s.recorder.openIncident = none)
    (hk : makeRoom s.tables.recorder s.now (s.slotsAsked c) s.recorder.incidents = some kept) :
    s.trigger c = openIncident s c kept := by
  simp [State.trigger, h, hx, hk]

/-- A trigger that finds no room is refused (R154). -/
theorem State.trigger_refused {s : State} {c : Cause} (h : s.takesTrigger c = true) (hx : s.recorder.openIncident = none)
    (hk : makeRoom s.tables.recorder s.now (s.slotsAsked c) s.recorder.incidents = none) : s.trigger c = refuseTrigger s := by
  simp [State.trigger, h, hx, hk]

/-- A trigger takes no pending event away. -/
theorem State.isPending_trigger {s : State} {e : EventId} (c : Cause) (h : s.isPending e = true) :
    (s.trigger c).isPending e = true := by
  unfold State.trigger
  split
  · split
    · exact h
    · split
      · exact h
      · have : (refuseTrigger s).isPending e = (s.raise .recordLost).isPending e := rfl
        rw [this, State.isPending_raise, h]
        rfl
  · exact h

/-! ## Monitor passes and FAILSAFE outside RUN -/

/-- Outside RUN there is no pass (R141). -/
theorem State.monitorPass_outside {s : State} (u : Updates) (h : s.agent.part ≠ .run) : s.monitorPass u = s := by
  simp [State.monitorPass, State.running, h]

/-- Outside RUN only the other block reacts to an update. -/
theorem State.withMonitor_outside {s : State} (u : Updates) (f : State → State) (h : s.agent.part ≠ .run) :
    s.withMonitor u f = f s := by
  simp [State.withMonitor, State.running, h]

/-- Outside RUN a request for FAILSAFE is not acted on (R174). -/
theorem State.enterFailsafe_outside {s : State} (c : FailsafeCause) (n : Nat) (h : s.agent.part ≠ .run) :
    s.enterFailsafe c n = s := by
  simp [State.enterFailsafe, State.running, h]

/-! ## Node records -/

/-- An outcome changes the supervision record of its node and no other record (R132). -/
theorem State.takeOutcome_node (n m : NodeSlot) (good : Bool) (s : State) :
    (s.takeOutcome n good).node m =
      if n = m then { s.node n with sup := (s.node n).sup.after s.tables.node[n] good } else s.node m := by
  have judge (k : Nat) (u : State) : (u.judgeControlLoss k).node m = u.node m := by
    unfold State.judgeControlLoss
    repeat' split
    all_goals rfl
  have effects (x y : NodeState) (u : State) : (u.transitionEffects n x y).node m = u.node m := by
    unfold State.transitionEffects
    repeat' split
    · exact State.node_congr (by simp) m
    · exact State.node_congr (by simp) m
    · rfl
  unfold State.takeOutcome
  simp only
  rw [judge, effects, State.onNode_node]

/-! ## Leaving RUN -/

/-- A release order leaves the exchanges, the supervision, the feedback and the control-loss timer alone (R137). -/
theorem State.releaseOnLeaving_orders (s : State) (n m : NodeSlot) :
    ((s.releaseOnLeaving n).node m).exch = (s.node m).exch ∧ ((s.releaseOnLeaving n).node m).sup = (s.node m).sup ∧
      ((s.releaseOnLeaving n).node m).achieved = (s.node m).achieved ∧
      (s.releaseOnLeaving n).order.controlLoss = s.order.controlLoss := by
  unfold State.releaseOnLeaving State.offerRelease
  split
  · split
    · refine ⟨?_, ?_, ?_, ?_⟩ <;> simp [State.node]
    · rw [State.onNode_node]
      split
      · rename_i h
        subst h
        exact ⟨rfl, rfl, rfl, rfl⟩
      · exact ⟨rfl, rfl, rfl, rfl⟩
  · exact ⟨rfl, rfl, rfl, rfl⟩

/-- After the order unit's part in leaving RUN no exchange waits and the control-loss timer is stopped; supervision and feedback
stand (R137). -/
theorem State.releaseControl_orders (s : State) :
    (∀ m, (s.releaseControl.node m).exch = (s.node m).exch.ended ∧ (s.releaseControl.node m).sup = (s.node m).sup ∧
      (s.releaseControl.node m).achieved = (s.node m).achieved) ∧ s.releaseControl.order.controlLoss = none := by
  unfold State.releaseControl
  refine foldl_keeps (fun t : State => (∀ m : NodeSlot, (t.node m).exch = (s.node m).exch.ended ∧ (t.node m).sup = (s.node m).sup ∧
      (t.node m).achieved = (s.node m).achieved) ∧ t.order.controlLoss = none) State.releaseOnLeaving (fun t n h => ?_) _ _ ?_
  · refine ⟨fun m => ?_, ?_⟩
    · obtain ⟨h1, h2, h3, -⟩ := t.releaseOnLeaving_orders n m
      rw [h1, h2, h3]
      exact h.1 m
    · rw [(t.releaseOnLeaving_orders n n).2.2.2]
      exact h.2
  · refine ⟨fun m => ?_, rfl⟩
    have : s.abandonAll.node m = (s.node m).abandon := vec8_get _ m
    rw [this]
    exact ⟨rfl, rfl, rfl⟩

/-- A release order puts no effort order on Port B (R137). -/
theorem State.releaseOnLeaving_originated (s : State) (n : NodeSlot) (h : ∀ f ∈ (s.port .b).originated, f.isOrder = false) :
    ∀ f ∈ ((s.releaseOnLeaving n).port .b).originated, f.isOrder = false := by
  intro f hf
  unfold State.releaseOnLeaving State.offerRelease at hf
  split at hf
  · split at hf
    · rcases State.accept_originated _ _ _ _ _ _ _ f hf with h' | h'
      · exact h f h'
      · rw [OrigFrame.isOrder, h']
    · exact h f hf
  · exact h f hf

/-- Leaving RUN withdraws every effort order from Port B (R137). -/
theorem State.releaseControl_originated (s : State) : ∀ f ∈ (s.releaseControl.port .b).originated, f.isOrder = false := by
  unfold State.releaseControl
  refine foldl_keeps (fun t : State => ∀ f ∈ (t.port .b).originated, f.isOrder = false) State.releaseOnLeaving
    (fun t n h => t.releaseOnLeaving_originated n h) _ _ ?_
  intro f hf
  simp only [State.abandonAll, State.withdrawAll, State.keepOriginated, State.onPort, State.port, LinkBlock.setPort, LinkBlock.port,
    List.mem_filter] at hf
  simpa using hf.2

/-! ## Adhesion ceilings and superseded exchanges -/

/-- A raise of 0 leaves a ceiling as it stands, one at the axle effort limit too (R112). -/
@[simp] theorem raisedCeiling_zero (axleLimit c : Nat) : raisedCeiling axleLimit 0 c = some c := rfl

/-- A raise that reaches the axle effort limit removes the ceiling (R112). -/
theorem raisedCeiling_reached {axleLimit raise c : Nat} (h : raise ≠ 0) (hc : axleLimit ≤ c + raise) :
    raisedCeiling axleLimit raise c = none := by
  simp [raisedCeiling, h, hc]

/-- A raise that stays under the axle effort limit lifts the ceiling (R112). -/
theorem raisedCeiling_below {axleLimit raise c : Nat} (h : raise ≠ 0) (hc : c + raise < axleLimit) :
    raisedCeiling axleLimit raise c = some (c + raise) := by
  simp [raisedCeiling, h, Nat.not_le.2 hc]

/-- An IDLE exchange is not superseded (R124). -/
theorem State.supersede_idle {n : NodeSlot} {s : State} (h : (s.node n).exch.awaiting = false) : s.supersede n = s := by
  simp [State.supersede, h]

/-- A superseded exchange takes its miss, and what the miss raises, before its waiting order is withdrawn (R124). -/
theorem State.supersede_awaiting {n : NodeSlot} {s : State} (h : (s.node n).exch.awaiting = true) :
    s.supersede n = ((s.onNode n (NodeRec.miss false)).takeOutcome n false).withdrawNewest n := by
  simp [State.supersede, h]

/-! ## The loss of a VALID axle -/

theorem State.anyValid_iff (s : State) : s.anyValid = true ↔ ∃ j : AxleSlot, s.speed.axles[j].validity = .valid := by
  simp only [State.anyValid, State.axleValid, axleSlots, List.any_cons, List.any_nil, Bool.or_eq_true, Bool.or_false, beq_iff_eq]
  constructor
  · rintro (h | h | h | h | h | h) <;> exact ⟨_, h⟩
  · rintro ⟨j, h⟩
    fin_cases j <;> simp_all

/-- With another VALID axle only the lost one's slide part returns to rest (R109). -/
theorem State.axleLost_other {s : State} {i : AxleSlot} (h : ∃ j : AxleSlot, (s.restAxle i).speed.axles[j].validity = .valid) :
    s.axleLost true i = s.restAxle i := by
  simp [State.axleLost, (State.anyValid_iff _).2 h]

/-- Without one the reference update of R50 follows, handed to its readers. -/
theorem State.axleLost_last {s : State} {i : AxleSlot} (h : ∀ j : AxleSlot, (s.restAxle i).speed.axles[j].validity ≠ .valid) :
    s.axleLost true i = (s.restAxle i).holdReference.referenceReaders := by
  have : (s.restAxle i).anyValid = false := by
    rw [Bool.eq_false_iff, ne_eq, State.anyValid_iff]
    rintro ⟨j, hj⟩
    exact h j hj
  simp [State.axleLost, State.loseLastValid, this]

/-- A reference that is not VALID is not HELD again (R50). -/
theorem State.holdReference_idle {s : State} (h : s.speed.ref.state ≠ .valid) : s.holdReference = s := by
  simp [State.holdReference, h]

/-- Outside RUN no reader of a reference update reacts (R62, R141). -/
theorem State.referenceReaders_outside {s : State} (h : s.agent.part ≠ .run) : s.referenceReaders = s := by
  simp [State.referenceReaders, State.withMonitor_outside _ _ h, State.judgeLatch, State.running, h]

/-- The deadline of an AWAITING exchange ends it missed, and the supervision takes the outcome (R129). -/
theorem State.missDeadline_awaiting {s : State} {n : NodeSlot} (h : (s.node n).exch.awaiting = true) :
    s.missDeadline n = (s.onNode n (NodeRec.miss true)).takeOutcome n false := by
  simp [State.missDeadline, h]

end Sys2Proof.Machine
end

