-- ==== Sys2Proof/WellFormed.lean ====
section
/-! DEFINITION. Well-formedness of commands. Every operand's type already carries its range (Port, Fin 6, Fin 8, Fin 2, four
strap levels), and R9 gives a frame of ANY bytes a meaning (a frame of a wrong length is counted, not excluded), so no
command is ill-formed and there is no check to fail. The match names every constructor, so that a new one cannot slip past. -/

namespace Sys2Proof

/-- A command is well-formed when its operands lie in their ranges; their types see to that. -/
def Instr.wellFormed : Instr → Bool
  | .powerOnReset _ _ | .receptionStart _ | .frameArrival _ _ | .transmissionComplete _ | .countStep => true
  | .axleAgeExpiry _ | .referenceHoldExpiry | .demandLossExpiry _ | .epochTimerExpiry | .slideHoldExpiry _ => true
  | .reliefLockoutExpiry _ | .exchangeDeadlineExpiry _ | .controlLossExpiry => true
  | .lineActiveEdge | .lineInactiveEdge | .lineDebounceExpiry => true
  | .getState | .setState | .readEntry | .writeEntry => true
  | .readStatusPart | .readStatusNodes | .readStatusLink | .readStatusSpeed => true
  | .readEvents | .nodeCut | .nodeRestore | .clearFallback | .trigger => true
  | .recordList | .recordHeader | .recordRead | .recordRelease => true
  | .timeRead | .timeSet | .timeCorrect | .readTimemark | .injectSample | .reset | .mgmtUnknownKind => true

end Sys2Proof
end

