-- ==== Sys2Proof/Tests/Slice0.lean ====
section
/-! SUPPORT. Tests of the model against the manual's own tables, worked cases and hand calculations from its rules. No command is
ill-formed and no word spells one (Sys2Proof/WellFormed.lean, Sys2Proof/Decode.lean), so the smoke tests of those two files say
just that. Theorems whose name begins with witness_ show states that meet the hypotheses of an obligation. -/

namespace Sys2Proof.Tests

open Sys2Proof.Machine

set_option maxRecDepth 20000

/-! ## Syntax, decoding, reset -/

theorem test_wellFormed_any_frame : (Instr.frameArrival .a []).wellFormed = true := by decide
theorem test_no_word_spells_a_command : decodeTableWord 32 0x13 = none := by decide
theorem test_reset_own_address : State.reset.link.own = 0xE0 := by decide
theorem test_own_address_of_straps : (State.powerOn 3 false).link.own = 0xE3 := by decide

/-! ## Frames (chapter 1) -/

/-- The published check value of this polynomial, initial value and bit order over the nine digits. -/
theorem test_crc_check_value : crc [0x31, 0x32, 0x33, 0x34, 0x35, 0x36, 0x37, 0x38, 0x39] = 0x29B1 := by decide

theorem test_own_frame_passes : receptionFault 0xE0 (buildFrame 0xE0 0x10 0x11 7 [2, 0, 100, 0, 0]) = none := by decide
theorem test_frame_too_short : receptionFault 0xE0 [1, 2, 3, 4, 5, 6] = some .badForm := by decide
theorem test_frame_wrong_check : receptionFault 0xE0 [0xE0, 0x10, 0x11, 7, 0, 0, 0] = some .badCheck := by decide
theorem test_frame_from_own_address : receptionFault 0xE0 (buildFrame 0x10 0xE0 0x11 7 []) = some .badForm := by decide
theorem test_frame_to_no_address : receptionFault 0xE0 (buildFrame 0 0x10 0x11 7 []) = some .badForm := by decide

/-- Port B of Table 1-21 at the publication: SENDING, F1 and F2 waiting, O1 to O8 waiting. -/
def portB : PortState :=
  { PortState.powerOn with
    line := .sending [0]
    forward := [[1], [2]]
    originated := [11, 12, 13, 14, 15, 16, 17, 18].map fun b => ⟨.response, [b]⟩ }

/-- The port after a number of completions. -/
def after (n : Nat) : PortState := Nat.repeat PortState.completed n portB

/-- Table 1-21, completion 4. -/
theorem test_arbiter_completion4 : (after 4).line = .sending [14] ∧ (after 4).run = 4 := by decide
/-- Table 1-21, completion 5: a forward frame after four originated ones. -/
theorem test_arbiter_completion5 : (after 5).line = .sending [1] ∧ (after 5).run = 0 ∧ (after 5).forward = [[2]] := by decide
/-- Table 1-21, completions 9 to 11. -/
theorem test_arbiter_completion9 : (after 9).run = 4 ∧ (after 9).originated = [] := by decide
theorem test_arbiter_completion11 : (after 11).line = .idle ∧ (after 11).transmitted = 11 := by decide

/-- The classification table of Table 1-19. -/
def classTable : Vector ClassEntry 32 :=
  ((((Tables.powerOn.classify.set 0 ⟨true, 0x10, 0x11, .a, .consume, .demand 0⟩).set 1
    ⟨true, 0x11, 0x11, .a, .observe, .demand 1⟩).set 2 ⟨true, 0x40, 0x21, .b, .observe, .axleSample 0 2⟩).set 3
    ⟨true, 0x60, 0x32, .b, .consume, .report 0⟩).set 4 ⟨true, 0x02, 0x41, .a, .observe, .timeMark⟩

/-- A part with own address E3 and the tables of section 1.6, in a part state. -/
def exampleIn (p : PartState) : State :=
  let s := State.powerOn 3 false
  { s with tables := { s.tables with classify := classTable }, agent := { s.agent with part := p } }

/-- A frame received whole at a port: its reception begins, and it arrives. -/
def received (p : Port) (f : Frame) (s : State) : State := State.receive p s.now f s

/-- Table 1-20, row 2: a broadcast demand is taken and goes on to Port B. -/
theorem test_broadcast_demand_taken_and_forwarded :
    let s := received .a (buildFrame 0xFF 0x11 0x11 1 [2, 0, 100, 0, 0]) (exampleIn .run)
    (s.demand.sources[1].state = .current ∧ s.link.portB.line ≠ .idle ∧ s.link.portA.good = 1) := by decide
/-- Section 1.6: in CONFIG the first frame of Table 1-20 is dropped and unclaimed is incremented. -/
theorem test_config_own_demand_unclaimed :
    let s := received .a (buildFrame 0xE3 0x10 0x11 1 [2, 0, 100, 0, 0]) (exampleIn .config)
    (s.demand.sources[0].state = .never ∧ s.link.unclaimed = 1 ∧ s.link.portB.line = .idle) := by decide
/-- Table 1-20, row 7: no entry, forwarded to Port B byte for byte. -/
theorem test_unmatched_forwarded :
    (received .a (buildFrame 0x60 0x02 0x32 1 []) (exampleIn .run)).link.portB.line =
      .sending (buildFrame 0x60 0x02 0x32 1 []) := by decide
/-- Table 1-20, row 9. -/
theorem test_wrong_check_counted :
    (received .b [2, 0x40, 0x21, 0, 0, 1, 1] (exampleIn .run)).link.portB.badCheck = 1 := by decide

/-! ## Time base (chapter 2) -/

/-- The corrector of section 2.4 with an accumulator. -/
def corrected (sense : Sense) (acc : BitVec 24) (count : Count) : TimeBlock :=
  { TimeBlock.powerOn with count := count, value := 168, sense := sense, accumulator := acc }

/-- Table 2-2, step 99,865 from step 99,864, under ADVANCE and RETARD. -/
theorem test_first_carry_advance :
    ((corrected .advance 16777152 1099864).step.count, (corrected .advance 16777152 1099864).step.accumulator)
      = (1099866, 104) := by decide
theorem test_first_carry_retard : (corrected .retard 16777152 1099864).step.count = 1099864 := by decide
theorem test_step_without_carry : (corrected .advance 0 1000000).step.accumulator = 168 := by decide

/-- A mark payload of a number. -/
def mark (n : Byte) : List Byte := [0, n, 0, 0, 0, 0, 0, 0]

/-- The capture of Table 2-5 after marks 1 to 3. -/
def afterMark3 : MarkCapture :=
  let set : TimeSet := ⟨.holdWithExpiry, 2000⟩
  MarkCapture.take set (MarkCapture.take set (MarkCapture.take set MarkCapture.powerOn 5000000 (mark 1)) 6000000 (mark 2))
    7000000 (mark 3)

/-- Table 2-5, mark 3: equal to the hold time, discarded. -/
theorem test_mark3_discarded : (afterMark3.number, afterMark3.discards, afterMark3.state) = (1, 2, .fresh) := by decide
/-- Table 2-5, mark 4: expired, replaced, and mark 1 counts as discarded. -/
theorem test_mark4_replaces :
    let m := MarkCapture.take ⟨.holdWithExpiry, 2000⟩ afterMark3 8000000 (mark 4)
    (m.number, m.discards, m.state, m.afterRead.discards, m.afterRead.state) = (4, 3, .fresh, 0, .read) := by decide

/-! ## Speed unit (chapter 3) -/

/-- Section 3.4: the three conversions, and the boundary cases. -/
theorem test_speed_conversions :
    [axleSpeedOf 31416 10 18600, axleSpeedOf 31416 10 18850, axleSpeedOf 31416 10 18700, axleSpeedOf 31416 0 0,
     axleSpeedOf 60000 255 2000] = [6080, 5999, 6048, 0, 20000] := by decide

/-- Axle 2 after the second sample of section 3.4. -/
def axleAt20 : AxleSpeed :=
  let a := { AxleSpeed.rest AxleEntry.powerOn with validity := .stale }
  AxleSpeed.good SpeedSet.powerOn 0 5999 1020000 (AxleSpeed.good SpeedSet.powerOn 0 6080 1000000 a)

/-- Table 3-4, second row. -/
theorem test_second_sample : (axleAt20.decel, axleAt20.trend, axleAt20.lastTrend) = (4050, .decel, some .decel) := by decide
/-- Table 3-4, third row: a recovery turn. -/
theorem test_third_sample :
    let g := goodEntry SpeedSet.powerOn 2 6048 1040000 axleAt20
    (g.decel, g.trend, g.turn) = (-2450, .accel, true) := by decide

/-- The reference at a row of Table 3-6. -/
def refAt (ms value : Nat) (estimate : Int) : RefRecord :=
  { value := value, state := .valid, estimate := estimate, lastUpdate := BitVec.ofNat 48 (ms * 1000), holdTimer := none }

/-- Table 3-6, rows 10, 20 and 50 ms, and the return from HELD at 760 ms (Table 3-7). -/
theorem test_reference_10ms : (refAt 0 6000 100).update SpeedSet.powerOn 6000 10000 = refAt 10 6000 88 := by decide
theorem test_reference_20ms : (refAt 10 6000 88).update SpeedSet.powerOn 5970 20000 = refAt 20 5996 127 := by decide
theorem test_reference_50ms : (refAt 40 5988 190).update SpeedSet.powerOn 5985 50000 = refAt 50 5985 203 := by decide
theorem test_reference_760ms :
    ({ refAt 60 5985 178 with state := .held, holdTimer := some 1160000 } : RefRecord).update SpeedSet.powerOn 5710 760000
      = refAt 760 5710 204 := by decide

/-! ## Blend engine (chapters 5 and 6) -/

/-- The node records of section 5.11. -/
def nodeWith (st : NodeState) (achieved : Nat) : NodeRec := { NodeRec.fresh st with achieved := some achieved }

/-- The part of section 5.11 before its epoch (Tables 5-6 and 6-4). -/
def worked : State :=
  let s := State.powerOn 0 false
  let t := s.tables
  { s with
    tables := { t with
      curve := { points := ((((t.curve.points.set 0 ⟨0, 0⟩).set 1 ⟨300, 0⟩).set 2 ⟨1000, 700⟩).set 3 ⟨6000, 700⟩).set 4 ⟨12000, 250⟩
                 count := 5 }
      blend := { t.blend with fullService := 4500 }
      node := vec8 fun _ => { NodeEntry.powerOn with present := true, address := 0x60 } }
    agent := { s.agent with part := .run }
    demand := { s.demand with eff := { s.demand.eff with mode := .blended, level := 600 } }
    speed := { s.speed with ref := refAt 0 900 120 }
    slide := { s.slide with axles := s.slide.axles.set 1 { AxleSlide.powerOn with state := .reapply, limit := some 350, ceiling := some 420 } }
    order := { s.order with
      nodes := #v[nodeWith .active 470, nodeWith .active 270, nodeWith .active 470, nodeWith .active 470,
        nodeWith .degraded 230, nodeWith .active 470, nodeWith .active 58, nodeWith .active 50] }
    blend := { s.blend with
      axles := #v[⟨0, 470, 120⟩, ⟨0, 270, 300⟩, ⟨0, 470, 0⟩, ⟨0, 480, 0⟩, ⟨0, 240, 0⟩, ⟨0, 470, 60⟩]
      trucks := #v[⟨0, 60⟩, ⟨0, 52⟩] } }

/-- Table 5-7. -/
theorem test_availabilities :
    axleSlots.map (worked.availability 900) = [600, 350, 600, 600, 300, 600] ∧
      axleSlots.map (worked.availability worked.predictedSpeed) = [420, 350, 420, 420, 210, 420] := by decide
/-- Table 5-9. -/
theorem test_worked_totals : worked.targets.totals = ⟨2700, 2416, 460, 284, 0, 2380, 36⟩ := by decide
/-- Table 5-8 and the pressure targets. -/
theorem test_worked_targets :
    worked.targets.axles = #v[476, 278, 475, 475, 237, 475] ∧ worked.targets.trucks = #v[66, 66] := by decide

/-- Section 5.11, variation 1: truck 2's valve unit is LOST. -/
theorem test_variation1 :
    let t := (worked.onNode 7 fun _ => nodeWith .lost 50).targets
    (t.totals.dynamic, t.totals.shortfall, t.trucks, t.axles) = (2528, 148, #v[97, 0], #v[498, 291, 497, 497, 248, 497]) := by
  decide
/-- Section 5.11, variation 2: truck 1 on HOLD with output 50. -/
theorem test_variation2 :
    let s := { worked with
      slide := { worked.slide with trucks := worked.slide.trucks.set 0 { TruckSlide.powerOn with request := .hold } }
      blend := { worked.blend with trucks := #v[⟨0, 50⟩, ⟨0, 52⟩] } }
    (s.targets.trucks, s.targets.totals.unplaced) = (#v[50, 82], 0) := by decide

/-- The part after stages 1 to 5 of the worked epoch. -/
def workedDone : State := worked.computeEpoch .regular

/-- Table 6-4 and the pressure outputs of section 6.6. -/
theorem test_worked_ramps :
    workedDone.blend.axles =
        #v[⟨476, 473, 150⟩, ⟨278, 276, 330⟩, ⟨475, 470, 30⟩, ⟨475, 475, 0⟩, ⟨237, 237, 0⟩, ⟨475, 471, 90⟩] ∧
      workedDone.blend.trucks = #v[⟨66, 63⟩, ⟨66, 55⟩] := by decide
theorem test_worked_publication :
    (workedDone.blend.pub.epoch, workedDone.blend.pub.totals.shortfall, workedDone.blend.pub.interval) = (1, 36, 20) := by decide
/-- Table 6-5: the extra epoch 7,400 µs later, in EMERGENCY. -/
theorem test_extra_epoch :
    let s := { workedDone with
      time := { workedDone.time with count := 7400 }
      demand := { workedDone.demand with eff := ⟨.emergency, 1000, 0, .source0, true⟩ } }
    let r := s.computeEpoch .extra
    (r.blend.pub.interval, axleSlots.map fun i => r.blend.axles[i].output) = (7, [465, 268, 462, 467, 229, 463]) ∧
      r.blend.trucks = #v[⟨400, 400⟩, ⟨400, 400⟩] := by decide
/-- Table 6-3, epoch 50. -/
theorem test_ramp_epoch50 :
    rampAxle RampSet.powerOn 20 false false 476 ⟨476, 466, 600⟩ = ⟨476, 476, 500⟩ := by decide

/-! ## Slide controller (chapter 7) -/

/-- A good entry of section 7.4. -/
def entry (speed : Nat) (decel : Int) (trend : Trend) (turn : Bool) : GoodEntry := ⟨2, speed, decel, trend, turn, 20000⟩

/-- Axle 2 after the entry at 20 ms of Table 7-4. -/
def axleInRelief : AxleSlide :=
  evalNormal SlideSet.powerOn 700 5996 480 (entry 5300 16500 .decel false)
    (evalNormal SlideSet.powerOn 700 6000 480 (entry 5630 16000 .decel false) AxleSlide.powerOn)

theorem test_slide_onset : (axleInRelief.state, axleInRelief.limit, axleInRelief.ceiling, axleInRelief.cycles)
    = (.relief, some 300, some 420, 1) := by decide
/-- Table 7-4 at 40 and 60 ms. -/
def axleInHold : AxleSlide :=
  evalRelief SlideSet.powerOn 60000 5988 (entry 5480 (-11500) .accel true)
    (evalRelief SlideSet.powerOn 40000 5992 (entry 5250 2500 .decel false) axleInRelief)
theorem test_slide_hold : (axleInHold.state, axleInHold.limit, axleInHold.holdTimer) = (.hold, some 187, some 210000) := by
  decide
/-- Table 7-4 at 210, 220 ms. -/
theorem test_slide_reapply :
    let a := holdExpired SlideSet.powerOn 210000 { axleInHold with slip := 1 }
    (a.state, (evalReapply SlideSet.powerOn 5960 187 (entry 5950 0 .flat false) a).limit) = (.reapply, some 193) := by decide
/-- Table 7-4 at 980 ms. -/
theorem test_slide_normal :
    let a := evalReapply SlideSet.powerOn 5960 187 (entry 5950 0 .flat false)
      { axleInHold with state := .reapply, limit := some 415 }
    (a.state, a.limit, a.ceiling, a.cycles) = (.normal, none, some 420, 0) := by decide
/-- R112: a raise that rounds to 0 leaves a ceiling at the axle effort limit as it stands; a raise of 1 removes it. -/
theorem test_slide_ceiling_at_limit :
    let a (gap : Int) := evalNormal SlideSet.powerOn 700 6000 480 { entry 6000 0 .flat false with gap := gap }
      { AxleSlide.powerOn with ceiling := some 700 }
    ((a 19999).ceiling, (a 20000).ceiling) = (some 700, none) := by decide
/-- Table 7-5 at 3045, 3065 and 3085 ms. -/
theorem test_truck_lockout :
    let a := TruckSlide.form 3000 3045000 .hold true ⟨.hold, none, true⟩
    let b := TruckSlide.form 3000 3065000 .hold false a
    (a, b, TruckSlide.form 3000 3085000 .hold false b)
      = (⟨.calm, none, true⟩, ⟨.calm, none, false⟩, ⟨.hold, some 6085000, false⟩) := by decide

/-! ## Order unit (chapter 8) -/

/-- The records of node slot 2 before epoch 140 (section 8.10). -/
def node2 : NodeRec :=
  { nodeWith .active 470 with sup := ⟨.active, 255, 0⟩, counts := { NodeCounts.zero with issued := 139, good := 139 } }

/-- Node slot 2 of section 8.10 before epoch 140, every other slot not present, and the publication of epoch 140. -/
def ordering : State :=
  let s := { State.powerOn 0 false with time := { TimeBlock.powerOn with count := 1000000 } }
  { s with
    tables := { s.tables with node := s.tables.node.set 2 { NodeEntry.powerOn with present := true, address := 0x62 } }
    agent := { s.agent with part := .run }
    blend := { s.blend with
      pub := { s.blend.pub with epoch := 140, time := 1000000, axles := vec6 fun _ => ⟨475, 475⟩ } }
    order := { s.order with nodes := s.order.nodes.set 2 node2 } }

/-- Table 8-5 at t: the order frame. -/
theorem test_order_frame :
    ordering.orderAll.link.portB.line = .sending (buildFrame 0x62 0xE0 0x31 0 [140, 1, 0, 1, 219]) := by decide
/-- Table 8-6 at t. -/
theorem test_order_exchange :
    let r := ordering.orderAll.node 2
    (r.exch.awaiting, r.exch.tag, r.exch.deadline, r.counts.issued) = (true, 140, some 1008000, 140) := by decide
/-- Table 8-6 at t + 8,000: the deadline. -/
theorem test_order_missed :
    let r := (ordering.orderAll.missDeadline 2).node 2
    (r.exch.awaiting, r.exch.lastMissed, r.sup, r.counts.missed) = (false, some 140, ⟨.active, 0, 1⟩, 1) := by decide
/-- Table 8-6 at t + 9,200: a late report. -/
theorem test_order_late :
    let r := ((ordering.orderAll.missDeadline 2).matchReport 2 1009200 140 0 474 0).node 2
    (r.counts.late, r.counts.stray, r.achieved) = (1, 0, some 470) := by decide
/-- A GOOD answer 4,100 µs after the issue (section 8.10 at t + 24,100). -/
theorem test_order_good :
    let r := (ordering.orderAll.matchReport 2 1004100 140 0 475 0).node 2
    (r.counts.good, r.exch.replyTime, r.achieved, r.exch.awaiting) = (140, 4100, some 475, false) := by decide
/-- Table 8-6 at t + 43,000: an extra epoch supersedes the exchange and its waiting order. -/
theorem test_order_superseded :
    let r := ordering.orderAll.orderAll.node 2
    (r.exch.awaiting, r.exch.lastMissed, r.counts.issued, r.counts.missed, r.sup) = (true, none, 141, 1, ⟨.active, 0, 1⟩) := by
  decide
/-- R124, step 1: the miss is taken while the old order still fills Port B, so its event's notice is refused; the order withdrawn after it
makes room for the new one. -/
theorem test_order_superseded_full :
    let s := ordering.orderNode 2
    let t := State.orderNode
      { s with
        tables := { s.tables with link := ⟨0x02, .b⟩ }
        link := { s.link with portB := { s.link.portB with
          originated := List.replicate 11 ⟨.response, [2]⟩ ++ [⟨.order 2, [1]⟩] } }
        order := { s.order with nodes := s.order.nodes.set 2 ({ s.node 2 with sup := ⟨.active, 0, 2⟩ }) } } 2
    (t.monitor.events.map fun e => (e.id, e.notice)) = [(.nodeDegraded 2, .refused)] ∧ (t.node 2).counts.notSent = 0 ∧
      (t.node 2).exch.awaiting = true ∧ t.link.portB.originated.length = 12 := by decide

/-! ## Condition monitor (chapter 9) -/

/-- Entry 0 of section 9.6. -/
def entry0 : MonEntry :=
  { MonEntry.powerOn with enabled := true, source := .shortfall, threshold := 400, hysteresis := 150, persistence := 3
                          event := true, airFallback := true }
/-- Entry 1 of section 9.6. -/
def entry1 : MonEntry :=
  { MonEntry.powerOn with enabled := true, condition := .crossDown, threshold := 1000, hysteresis := 20, persistence := 2
                          event := true }
/-- The run state and firings of an entry through a list of values. -/
def judged (e : MonEntry) (vs : List Int) : RunState × List Bool :=
  vs.foldl (fun r v => ((judge e v r.1).1, r.2 ++ [(judge e v r.1).2])) (RunState.powerOn, [])

/-- Table 9-3, through epoch 507 and through epoch 508. -/
theorem test_level_entry :
    judged entry0 [380, 420, 450, 390, 470, 520, 300]
      = (⟨true, 3, .unknown⟩, [false, false, false, false, true, false, false]) := by decide
theorem test_level_entry_clears : (judged entry0 [380, 420, 450, 390, 470, 520, 300, 240]).1 = ⟨false, 0, .unknown⟩ := by decide
/-- Table 9-4. -/
theorem test_crossing_entry :
    judged entry1 [1100, 1010, 975, 990, 970] = (⟨true, 0, .low⟩, [false, false, false, false, true]) := by decide
theorem test_crossing_against : (judged entry1 [1100, 1010, 975, 990, 970, 1030]).1 = ⟨false, 0, .high⟩ := by decide

/-- Section 9.9: a second raise of a pending event counts it, and sends no notice. -/
theorem test_raise_twice :
    ((State.reset.raise (.sensorFault 4)).raise (.sensorFault 4)).monitor.events
      = [⟨.sensorFault 4, 2, 0, 0, .unsent⟩] := by decide

/-! ## Incident recorder (chapter 10) -/

/-- A closed incident with a number of snapshots. -/
def closed (number slots : Nat) (st : IncidentState) : Incident :=
  { number := number, state := st, openStamp := 0, closeStamp := some 0, causes := [], cutShort := false, truncated := false
    moreCauses := false, mark := none, lineStamp := none, snaps := List.replicate slots State.reset.snapshot
    remaining := 0, reserved := slots }

/-- Table 10-5, incidents 23 to 33 as one of 920 slots for brevity. -/
def store : List Incident :=
  [closed 20 48 .closedUnread, closed 21 16 .closedRead, closed 22 30 .closedRead, closed 23 920 .closedUnread]

/-- Section 10.9, opening: incidents 21 and 22 are freed and 20 is passed over. -/
theorem test_store_policy_frees :
    (makeRoom RecorderSet.powerOn 0 48 store).map (fun xs => xs.map Incident.number) = some [20, 23] := by decide

/-- Incident 34 after epoch 1020: 36 snapshots, 12 remaining, 48 reserved. -/
def incident34 : Incident :=
  { closed 34 36 .opened with closeStamp := none, remaining := 12, reserved := 48, causes := [⟨.monitor 0, 0, 1⟩] }

/-- Table 10-6, the retrigger after 1020 with 8 slots free. -/
theorem test_retrigger :
    let x := retriggered RecorderSet.powerOn (.slidePersistent 2) 0 none 8 incident34
    (x.remaining, x.reserved, x.truncated, x.causes.length) = (20, 56, true, 2) := by decide

/-! ## Management (chapter 11) -/

/-- A request at the head of the queue of a part in a state. -/
def asked (p : PartState) (kind : Byte) (args : List Byte) : State :=
  let s := State.powerOn 0 false
  { s with agent := { s.agent with
    part := p, controlValid := decide (p = .run), queue := [⟨.a, 0, 0x02, kind, 0x21, args⟩] } }

/-- The response on Port A's line to a request at the head of the queue. -/
def response (kind : Byte) (status : Byte) (data : List Byte) : Line :=
  .sending (buildFrame 0x02 0xE0 0x52 0 (kind :: 0x21 :: status :: data))

/-- The next state, or the same one. -/
def nextOr (o : Host.Outcome State Fault Refusal) (s : State) : State :=
  match o with
  | .next t => t
  | .fault _ => s
  | .refused _ => s

/-- The state after a command. -/
def ran (i : Instr) (s : State) : State := nextOr (exec i s) s

/-- R168. -/
theorem test_get_state :
    (ran .getState (asked .config 0x01 [])).link.portA.line = response 0x01 0 [1, 0, 0, 0, 0xE0, 0, 0, 0, 0, 0] := by decide
/-- Table 11-5: the tables of power-on fail C1. -/
theorem test_run_refused :
    let s := ran .setState (asked .config 0x02 [2])
    (s.link.portA.line = response 0x02 6 [1] ∧ s.agent.lastValidation = 1 ∧ s.agent.part = .config) := by decide
/-- Table 11-5, requests 24 and 26. -/
theorem test_write_locked_in_run :
    (ran .writeEntry (asked .run 0x04 [9, 0])).link.portA.line = response 0x04 5 [] := by decide


/-- The data of a BLEND entry with a full-service effort; the other fields as at power-on. -/
def blendData (fullService : Byte) : List Byte :=
  [0, fullService, 2, 188, 20, 5, 220, 0, 128, 0, 2, 188, 1, 144, 0, 3, 232]

/-- R66: a full-service effort of 99 is refused, one of 100 is taken. -/
theorem test_blend_full_service_range :
    let s (v : Byte) := ran .writeEntry (asked .config 0x04 (5 :: 0 :: blendData v))
    ((s 99).link.portA.line, (s 99).tables.blend.fullService, (s 100).tables.blend.fullService) = (response 0x04 4 [], 4000, 100) := by
  decide

/-- Table 11-3: the data bytes per entry of the thirteen tables. -/
theorem test_entry_lengths :
    [entryLength (.classify 0), entryLength (.axle 0), entryLength (.node 0), entryLength (.curvePoint 0),
     entryLength .curveCount, entryLength .blend, entryLength (.truck 0), entryLength .ramp, entryLength .speed,
     entryLength .slide, entryLength (.monitor 0), entryLength .recorder, entryLength .time, entryLength .link]
      = [8, 3, 6, 4, 1, 17, 8, 10, 10, 23, 10, 9, 3, 2] := by decide

/-- The data lengths the manual gives (R138, R161, R162, R170, R53). -/
theorem test_data_lengths :
    (State.reset.nodeData 0).length = 57 ∧ incident34.header.length = 56 ∧ (State.reset.snapshot.part0 0).length = 53 ∧
      State.reset.snapshot.part1.length = 49 ∧ State.reset.snapshot.part2.length = 49 := by decide
theorem test_page_lengths :
    State.reset.partPage1.length = 36 ∧ State.reset.partPage2.length = 40 ∧ State.reset.partPage3.length = 24 ∧
      State.reset.link.page0.length = 40 ∧ State.reset.link.page1.length = 20 ∧ State.reset.speedData.length = 41 := by decide

/-- R176: the response is sent and the part is in PASS with an empty queue. -/
theorem test_soft_reset :
    let s := ran .reset (asked .config 0x3F [])
    (s.link.portA.line = response 0x3F 0 [] ∧ s.agent.part = .pass ∧ s.agent.queue = []) := by decide

/-! ## Witnesses

Each theorem shows states and operands that meet the hypotheses of the obligation it is named after, clause by clause. -/

/-- The request at the head of the queue of `asked`. -/
def head (kind : Byte) (args : List Byte) : Request := ⟨.a, 0, 0x02, kind, 0x21, args⟩

/-- A state with the count at 1000 and a frame's reception under way at Port A. -/
def receiving (s : State) : State :=
  { s with time := { s.time with count := 1000 }
           link := { s.link with portA := { s.link.portA with rx := some 990 } } }

/-- A state whose Port B has a number of frames waiting in each queue, its line SENDING. -/
def withWaiting (forward originated : Nat) (s : State) : State :=
  { s with link := { s.link with
      portA := { s.link.portA with line := .sending [9], originated := List.replicate originated ⟨.response, [2]⟩ }
      portB := { s.link.portB with
        line := .sending [9], forward := List.replicate forward [1], originated := List.replicate originated ⟨.response, [2]⟩ } } }

theorem witness_TimeBaseServices :
    (asked .pass 0x20 []).asks (head 0x20 []) [] 0x20 ∧ (asked .run 0x23 []).asks (head 0x23 []) [] 0x23 ∧
      (asked .pass 0x22 [0, 0, 168, 1]).asks (head 0x22 [0, 0, 168, 1]) [] 0x22 :=
  ⟨⟨rfl, rfl⟩, ⟨rfl, rfl⟩, rfl, rfl⟩

theorem witness_TimeSetMovesTimersAndStamps :
    (asked .pass 0x21 [1]).asks (head 0x21 [1]) [] 0x21 ∧
      (asked .run 0x21 [0, 0, 0, 0, 0, 1]).asks (head 0x21 [0, 0, 0, 0, 0, 1]) [] 0x21 ∧
      (asked .failsafe 0x21 [0, 0, 0, 0, 0, 1]).asks (head 0x21 [0, 0, 0, 0, 0, 1]) [] 0x21 ∧
      (asked .config 0x21 [0, 0, 0, 0, 0, 1]).asks (head 0x21 [0, 0, 0, 0, 0, 1]) [] 0x21 ∧
      (asked .run 0x21 [0, 0, 0, 0, 0, 1]).agent.part = .run ∧ (asked .config 0x21 [0, 0, 0, 0, 0, 1]).agent.part = .config :=
  ⟨⟨rfl, rfl⟩, ⟨rfl, rfl⟩, ⟨rfl, rfl⟩, ⟨rfl, rfl⟩, rfl, rfl⟩

/-- At the hold time (mark 3 of Table 2-5) the mark does not replace; beyond it (mark 4) it does. -/
theorem witness_MarkCaptureFollowsThePolicy :
    (mark 3).length = 8 ∧ ([] : List Byte).length ≠ 8 ∧ afterMark3.state = .fresh ∧
      ¬ ((2000 * 1000 : Int) < elapsed afterMark3.stamp 7000000) ∧ (2000 * 1000 : Int) < elapsed afterMark3.stamp 8000000 := by
  decide

/-- Frames of 6 and 68 bytes; 7 bytes that fail the check; frames that fail each later reception check. -/
theorem witness_FramesAreStampedAndChecked :
    let ok (f : Frame) := 7 ≤ f.length ∧ f.length ≤ 67 ∧ (crc (f.take (f.length - 2))).toNat = ofBytes (f.drop (f.length - 2))
    let short := let h : Frame := [0xE0, 0x10, 0x11, 7, 1]; h ++ toBytes 2 (crc h).toNat
    ((receiving State.reset).port .a).rx = some 990 ∧ (List.replicate 6 (0 : Byte)).length < 7 ∧
      67 < (List.replicate 68 (0 : Byte)).length ∧ ¬ ok [0xE0, 0x10, 0x11, 7, 0, 0, 0] ∧
      (ok short ∧ (short.getD 4 0).toNat ≠ short.length - 7) ∧ ok (buildFrame 0 0x10 0x11 7 []) ∧ ok (buildFrame 0xE0 0 0x11 7 []) ∧
      ok (buildFrame 0x10 0xE0 0x11 7 []) := by
  decide

theorem witness_EveryArrivalIsCountedOnce : ((receiving State.reset).port .a).rx = some 990 := rfl

/-- The lowest valid entry for a frame's source, kind and port. -/
def entryFor (p : Port) (f : Frame) (s : State) : Option ClassEntry :=
  s.tables.classify.toList.find? fun e => decide (e.valid = true ∧ e.source = f.getD 1 0 ∧ e.kind = f.getD 2 0 ∧
    (e.port = .either ∨ (e.port = .a ∧ p = .a) ∨ (e.port = .b ∧ p = .b)))

/-- A frame's reception under way at Port A, with the table of section 1.6 and two entries of no role. -/
def arriving (p : PartState) : State :=
  let s := receiving (exampleIn p)
  { s with tables := { s.tables with
      classify := (classTable.set 5 ⟨true, 0x70, 0x70, .either, .drop, .noRole⟩).set 6 ⟨true, 0x71, 0x70, .a, .forward, .noRole⟩ } }

/-- Frames to the own address, to all and to another, in every part state: no entry (source 72), a demand entry that consumes, a
mark entry that observes, one that drops and one that forwards; and Port B's forward queue with 15 and 16 frames. -/
theorem witness_FramesAreForwardedAndHandedOn :
    let f (dest source kind : Byte) := buildFrame dest source kind 1 []
    (∀ p, ((arriving p).port .a).rx = some 990 ∧ (arriving p).link.own = 0xE3 ∧ (arriving p).agent.part = p) ∧
      (∀ g ∈ [f 0xE3 0x72 0x70, f 0xE3 0x10 0x11, f 0xE3 0x02 0x41, f 0xE3 0x70 0x70, f 0xE3 0x71 0x70, f 0x60 0x72 0x70, f 0x60 0x10 0x11,
          f 0xFF 0x10 0x11, f 0x60 0x02 0x41, f 0x60 0x70 0x70, f 0x60 0x71 0x70],
        receptionFault 0xE3 g = none ∧ g.getD 2 0 ≠ 0x51) ∧
      entryFor .a (f 0xE3 0x72 0x70) (arriving .run) = none ∧
      entryFor .a (f 0xE3 0x10 0x11) (arriving .run) = some ⟨true, 0x10, 0x11, .a, .consume, .demand 0⟩ ∧
      entryFor .a (f 0xE3 0x02 0x41) (arriving .config) = some ⟨true, 0x02, 0x41, .a, .observe, .timeMark⟩ ∧
      entryFor .a (f 0xE3 0x70 0x70) (arriving .config) = some ⟨true, 0x70, 0x70, .either, .drop, .noRole⟩ ∧
      entryFor .a (f 0xE3 0x71 0x70) (arriving .config) = some ⟨true, 0x71, 0x70, .a, .forward, .noRole⟩ ∧
      ((withWaiting 15 0 State.reset).port .b).forward.length < 16 ∧ ((withWaiting 15 0 State.reset).port .b).line ≠ .idle ∧
      ((State.reset.port .b).forward = [] ∧ (State.reset.port .b).originated = [] ∧ (State.reset.port .b).line = .idle) ∧
      16 ≤ ((withWaiting 16 0 State.reset).port .b).forward.length :=
  ⟨fun _ => ⟨rfl, rfl, rfl⟩, by decide⟩

/-- A request without kind and id; one that finds three requests waiting, and one that finds four. -/
theorem witness_OwnRequestJoinsTheQueue :
    let empty := buildFrame 0xE0 0x02 0x51 1 []
    let f := buildFrame 0xE0 0x02 0x51 1 [0x01, 0x21]
    let waiting (n : Nat) (s : State) : State := { s with agent := { s.agent with queue := List.replicate n (head 1 []) } }
    (∀ n, ((receiving (waiting n State.reset)).port .a).rx = some 990) ∧
      receptionFault 0xE0 empty = none ∧ receptionFault 0xE0 f = none ∧ f.getD 0 0 = 0xE0 ∧ f.getD 2 0 = 0x51 ∧
      ((empty.drop 5).take (empty.length - 7)).length < 2 ∧ 2 ≤ ((f.drop 5).take (f.length - 7)).length ∧
      (waiting 3 State.reset).agent.queue.length < 4 ∧ 4 ≤ (waiting 4 State.reset).agent.queue.length :=
  ⟨fun _ => rfl, by decide, by decide, by decide, by decide, by decide, by decide, by decide, by decide⟩

/-- A SENDING line, and Port B of Table 1-21. -/
theorem witness_TransmissionCompleteTakesTheNextFrame :
    ((withWaiting 1 1 State.reset).port .b).line = .sending [9] ∧
      (portB.line = .sending [0] ∧ portB.forward = [1] :: [[2]] ∧ portB.run ≤ 4) := by decide

theorem witness_ResponseIsQueuedOrDropped :
    (((withWaiting 0 11 State.reset).port .a).originated.length < 12 ∧ ((withWaiting 0 11 State.reset).port .a).line ≠ .idle) ∧
      ((State.reset.port .a).originated = [] ∧ (State.reset.port .a).forward = [] ∧ (State.reset.port .a).line = .idle) ∧
      12 ≤ ((withWaiting 0 12 State.reset).port .a).originated.length := by decide

theorem witness_BuiltFramesAreReadBack :
    (List.replicate 60 (7 : Byte)).length ≤ 60 ∧ (0xE0 : Byte) ≠ 0 ∧ (0x10 : Byte) ≠ 0 ∧ (0x10 : Byte) ≠ 0xE3 := by decide

/-- The lowest RAMP rates and a CLASSIFY entry of role REPORT are accepted. -/
theorem witness_WrittenEntriesAreReadBack :
    ([0, 1, 0, 1, 0, 0, 0, 1, 0, 1] : List Byte).length = entryLength .ramp ∧
      (Tables.powerOn.written 0xE0 .ramp [0, 1, 0, 1, 0, 0, 0, 1, 0, 1]).isSome ∧
      (Tables.powerOn.written 0xE0 (.classify 31) [1, 0x60, 0x32, 1, 2, 4, 7, 0]).isSome := by decide

/-- Table 4 entry 17 and table 14 are not there; CLASSIFY entry 31, SLIDE in RUN and with no data, BLEND with full-service effort 99 and
100, LINK with the own address, and AXLE and MONITOR entries in range. -/
theorem witness_EntryServices :
    (∀ p k args, (asked p k args).asks (head k args) [] k ∧ (asked p k args).agent.part = p) ∧
      (∀ e : TableRef, e.name ≠ (4, 17) ∧ e.name ≠ (14, 0)) ∧ (TableRef.classify 31).name = (1, 31) ∧
      TableRef.slide.name = (9, 0) ∧ ([] : List Byte).length ≠ TableRef.slide.size ∧
      ((blendData 99).length = TableRef.blend.size ∧ (readFields TableRef.blend.ranges (blendData 99)).getD 0 0 < 100) ∧
      (∀ e ∈ [(TableRef.blend, blendData 100), (.axle 5, [1, 39, 16]), (.monitor 7, [1, 9, 5, 4, 255, 255, 0, 0, 16, 15])],
        e.2.length = e.1.size ∧ ∀ k, k < e.1.ranges.length → ∀ x ∈ e.1.ranges[k]?,
          x.lo ≤ (readFields e.1.ranges e.2).getD k 0 ∧ (readFields e.1.ranges e.2).getD k 0 ≤ x.hi) ∧
      TableRef.blend.suits 0xE0 ((readFields TableRef.blend.ranges (blendData 100)).getD · 0) ∧
      (TableRef.monitor 7).suits 0xE0 (([1, 9, 5, 4, 65535, 0, 16, 15] : List Nat).getD · 0) ∧
      ¬ TableRef.link.suits 0xE0 (([0xE0, 0] : List Nat).getD · 0) ∧
      (asked .config 0x04 []).speed.axles[5].validity ≠ .valid := by
  refine ⟨fun _ _ _ => ⟨⟨rfl, rfl⟩, rfl⟩, fun e => ?_, rfl, rfl, by decide, by decide, by decide, trivial, ?_, ?_, by decide⟩
  · cases e <;> simp [TableRef.name]
    omega
  · simp [TableRef.suits]
  · simp [TableRef.suits]

theorem witness_TablesStandInRun :
    (asked .run 0x04 [9, 0]).agent.part = .run ∧ (∀ x y, Instr.writeEntry ≠ .powerOnReset x y) ∧
      exec .writeEntry (asked .run 0x04 [9, 0]) = .next (ran .writeEntry (asked .run 0x04 [9, 0])) :=
  ⟨rfl, fun _ _ => by simp, rfl⟩

/-- INVALID; a candidate within the allowances of 20 ms, the highest one above them, and the lowest one below them. -/
theorem witness_ReferenceMovesWithinItsAllowances :
    let r := refAt 0 6000 100
    (State.reset.speed.ref.state = .invalid) ∧ r.state ≠ .invalid ∧ r.value ≤ 20000 ∧
      (5993 ≤ 20000 ∧ r.value ≤ 5993 + 400 * 20000 / 1000000 ∧ 5993 ≤ r.value) ∧
      (20000 ≤ 20000 ∧ r.value + 200 * 20000 / 1000000 < 20000) ∧ 0 + 400 * 20000 / 1000000 < r.value ∧ 0 ≤ elapsed r.lastUpdate 20000 ∧
      (elapsed r.lastUpdate 999).toNat < 1000 ∧ elapsed (refAt 20 6000 100).lastUpdate 19000 < 0 := by decide

/-- A state in RUN at count 1000 in which axle 0 alone is VALID, its age timer due exactly now, and the reference VALID. -/
def aging : State :=
  let s := State.powerOn 0 false
  { s with time := { s.time with count := 1000 }
           agent := { s.agent with part := .run }
           speed := { axles := s.speed.axles.set 0 { s.speed.axles[0] with validity := .valid, ageTimer := some 1000 }
                      ref := { refAt 0 900 0 with holdTimer := some 1000 } } }

theorem witness_SpeedTimersExpire :
    ¬ Timer.due State.reset.speed.axles[0].ageTimer State.reset.now ∧
      (Timer.due aging.speed.axles[0].ageTimer aging.now ∧ aging.speed.axles[0].validity = .valid) ∧
      (aging.speed.ref.state = .valid ∧ ∀ j : AxleSlot, j ≠ 0 → aging.speed.axles[j].validity ≠ .valid) ∧
      (let s := aging.onAxleSpeed 5 fun x => { x with validity := .valid }
       Timer.due s.speed.axles[0].ageTimer s.now ∧ s.speed.axles[0].validity = .valid ∧
        ∃ j : AxleSlot, j ≠ 0 ∧ s.speed.axles[j].validity = .valid) ∧
      ¬ Timer.due State.reset.speed.ref.holdTimer State.reset.now ∧ Timer.due aging.speed.ref.holdTimer aging.now := by decide

/-- An AXLE write in CONFIG to the VALID axle 0: alone under a VALID reference, and with axle 5 VALID too. -/
theorem witness_EntryServices_validAxle :
    let s : State := { asked .config 0x04 [2, 0, 1, 39, 16] with speed := aging.speed }
    let t := s.onAxleSpeed 5 fun x => { x with validity := .valid }
    s.asks (head 0x04 [2, 0, 1, 39, 16]) [] 0x04 ∧ t.asks (head 0x04 [2, 0, 1, 39, 16]) [] 0x04 ∧ s.agent.part ≠ .run ∧
      (TableRef.axle 0).name = (2, 0) ∧ ([1, 39, 16] : List Byte).length = (TableRef.axle 0).size ∧
      (s.speed.axles[0].validity = .valid ∧ s.speed.ref.state = .valid ∧ ∀ j : AxleSlot, j ≠ 0 → s.speed.axles[j].validity ≠ .valid) ∧
      (t.speed.axles[0].validity = .valid ∧ ∃ j : AxleSlot, j ≠ 0 ∧ t.speed.axles[j].validity = .valid) :=
  ⟨⟨rfl, rfl⟩, ⟨rfl, rfl⟩, by decide, rfl, rfl, by decide, by decide⟩

/-- INJECT_SAMPLE of five bytes for axle 5 in CONFIG, of four bytes, and in RUN; payloads of five and four bytes in a frame; entries below,
above and twice in a permission of 1 to 4; of a disabled axle, a status of 2, pulses without an interval, and a stamp before the
last one of a VALID axle; a fault entry, and a good one with 0 pulses; and references with and without a VALID axle. -/
theorem witness_SamplesAreTaken :
    let args : List Byte := [5, 0, 10, 0x48, 0xA8]
    let payload (f : Frame) := (f.drop 5).take (f.length - 7)
    (∀ p x, (asked p 0x30 x).asks (head 0x30 x) [] 0x30 ∧ (asked p 0x30 x).agent.part = p) ∧
      (args.length ∈ [5, 10, 15] ∧ [5, 0, 10, (0x48 : Byte)].length ∉ [5, 10, 15] ∧ args = [BitVec.ofNat 8 5, 0, 10, 0x48, 0xA8]) ∧
      ((asked .config 0x30 args).speed.axles[5].enabled = true ∧ (asked .config 0x30 args).speed.axles[5].validity ≠ .valid ∧
        ofBytes [0x48, 0xA8] ≠ 0) ∧
      ((payload (buildFrame 0xE3 0x40 0x21 1 args)).length ∈ [5, 10, 15] ∧
        (payload (buildFrame 0xE3 0x40 0x21 1 [5, 0, 10, 0x48])).length ∉ [5, 10, 15]) ∧
      ((0 : Nat) < (1 : AxleSlot).val ∧ (4 : AxleSlot).val < 5 ∧ 3 ∈ [3] ∧ (1 : AxleSlot) ≤ 4 ∧ 4 ∉ ([] : List Nat)) ∧
      ({ enabled := false, pulse := 31416 : AxleEntry }.enabled = false ∧ 1 < 2 ∧ (0 < 1 ∧ 0 = 0) ∧
        (elapsed aging.speed.axles[0].stamp (-1) < 0 ∧ aging.speed.axles[0].validity = .valid)) ∧
      (State.reset.speed.axles[4].enabled = true ∧ ¬ (1 < 1) ∧ ¬ elapsed State.reset.speed.axles[4].stamp 1000 < 0) ∧
      (aging.speed.axles[0].speed ∈ (axleSlots.filter fun i => aging.speed.axles[i].validity = .valid).map fun i => aging.speed.axles[i].speed) ∧
      ((axleSlots.filter fun i => worked.speed.axles[i].validity = .valid) = [] ∧ worked.speed.ref.state = .valid) ∧
      ((axleSlots.filter fun i => State.reset.speed.axles[i].validity = .valid) = [] ∧ State.reset.speed.ref.state ≠ .valid) :=
  ⟨fun _ _ => ⟨⟨rfl, rfl⟩, rfl⟩, by decide, by decide, by decide, by decide, by decide, by decide, by decide, by decide, by decide⟩

/-- Arguments 3; 1 alone; 1 with node slot 8; 1 with node slot 7. -/
theorem witness_SpeedAndNodeStatus :
    (asked .run 0x05 [3]).asks (head 0x05 [3]) [] 0x05 ∧ (asked .run 0x05 [1]).asks (head 0x05 [1]) [] 0x05 ∧
      (asked .run 0x05 [1, 8]).asks (head 0x05 [1, 8]) [] 0x05 ∧
      (asked .run 0x05 [1, 7]).asks (head 0x05 [1, BitVec.ofNat 8 (7 : NodeSlot).val]) [] 0x05 :=
  ⟨⟨rfl, rfl⟩, ⟨rfl, rfl⟩, ⟨rfl, rfl⟩, rfl, rfl⟩

/-- A part in RUN with the table of section 1.6, the reception under way at Port A, and source 0's last sequence 7. -/
def demanded : State :=
  let s := receiving (exampleIn .run)
  { s with demand := { s.demand with sources := s.demand.sources.set 0 { s.demand.sources[0] with state := .current, seq := some 7 } } }

/-- A payload of no length, modes 5, 4 and 0, a duplicate and a new sequence. -/
theorem witness_DemandFrameUpdatesItsSource :
    let f (seq : Byte) (payload : List Byte) := buildFrame 0xE3 0x10 0x11 seq payload
    (demanded.port .a).rx = some 990 ∧ demanded.agent.part = .run ∧ demanded.link.own = 0xE3 ∧
      (∀ g ∈ [f 8 [], f 8 [5, 0, 0, 0, 0], f 7 [0, 0, 0, 0, 0], f 8 [4, 3, 232, 1, 244]],
        receptionFault 0xE3 g = none ∧ g.getD 0 0 = 0xE3 ∧ g.getD 2 0 ≠ 0x51 ∧
          demanded.matchingEntry .a g = some ⟨true, 0x10, 0x11, .a, .consume, .demand 0⟩) ∧
      (demanded.demand.sources[0].state = .current ∧ demanded.demand.sources[0].seq = some ((f 7 [0, 0, 0, 0, 0]).getD 3 0)) ∧
      demanded.demand.sources[0].seq ≠ some ((f 8 [4, 3, 232, 1, 244]).getD 3 0) := by decide

/-- A state in RUN at count 1000 in which every timer that runs in RUN is due exactly now, every exchange AWAITING and node slot 2
one outcome short of DEGRADED, node slot 3 of LOST, axles 0 and 1 in HOLD, and the debounce over. -/
def expiring : State :=
  let s := asked .run 0x02 [3]
  let awaiting (st : NodeState) (run : Nat) : NodeRec :=
    { nodeWith st 10 with sup := ⟨st, 0, run⟩
                          exch := { (nodeWith st 10).exch with awaiting := true, tag := 140, control := .holdControl, deadline := some 1000 } }
  { s with
    time := { s.time with count := 1000 }
    demand := { s.demand with sources := vec2 fun _ => { SourceRec.powerOn with timer := some 1000 } }
    blend := { s.blend with timer := some 1000 }
    slide := { axles := (vec6 fun _ => { AxleSlide.powerOn with state := .hold, limit := some 100, ceiling := some 200, slip := 25, holdTimer := some 1000 }).set 1
                 { AxleSlide.powerOn with state := .hold, limit := some 200, ceiling := some 200, slip := 26, holdTimer := some 1000 }
               trucks := vec2 fun _ => { TruckSlide.powerOn with request := .hold, timer := some 1000 } }
    order := { nodes := ((vec8 fun _ => awaiting .joining 0).set 2 (awaiting .active 2)).set 3 (awaiting .degraded 9)
               controlLoss := some 1000 }
    recorder := { s.recorder with lineActive := true, edge := some 900, debounce := some 1000 } }

theorem witness_DemandLossBringsThePenalty :
    ¬ Timer.due State.reset.demand.sources[1].timer State.reset.now ∧ Timer.due expiring.demand.sources[0].timer expiring.now ∧
      (ran (.demandLossExpiry 0) expiring).demand.eff.mode ≠ .emergency ∧
      (ran (.demandLossExpiry 0) expiring).agent.part = expiring.agent.part := by decide

/-- The part of section 5.11 with source 0 CURRENT in a mode at level 600, and the latch as given. -/
def wanting (m : Mode) (latch : Bool) : State :=
  { worked with demand :=
      { sources := worked.demand.sources.set 0
          { SourceRec.powerOn with state := .current, seq := some 7, payload := some { mode := m, level := 600, floor := 40 } }
        eff := { worked.demand.eff with latch := latch } } }

/-- An entry of the condition monitor that is enabled, at slot 7. -/
def watching (e : MonEntry) (s : State) : State := { s with tables := { s.tables with monitor := s.tables.monitor.set 7 e } }

/-- A source in EMERGENCY; a latch that may not clear at 9 km/h, and one that may at standstill; no latch; the entry into EMERGENCY; RUN with
no entry that watches the reference, and with one. -/
theorem witness_EffectiveDemandIsFormed :
    let emerg (s : State) (d : SourceSlot) := s.demand.sources[d].state = .current ∧
      s.demand.sources[d].payload.map DemandPayload.mode = some .emergency
    let still : State := { wanting .blended true with speed := { worked.speed with ref := refAt 0 0 0 } }
    emerg (wanting .emergency false) 0 ∧ (∀ d, ¬ emerg (wanting .blended true) d ∧ ¬ emerg still d) ∧
      ((wanting .blended true).demand.eff.latch = true ∧ (wanting .blended true).speed.ref.state = .valid ∧
        (wanting .blended true).speed.ref.value ≠ 0) ∧
      (still.demand.eff.latch = true ∧ still.speed.ref.state = .valid ∧ still.speed.ref.value = 0) ∧
      ((wanting .emergency false).demand.eff.mode ≠ .emergency ∧ (wanting .emergency false).formDemand.mode = .emergency) ∧
      (wanting .blended false).formDemand.mode ≠ .emergency ∧ worked.agent.part = .run ∧
      (∀ m : Fin 8, worked.tables.monitor[m].enabled = false) ∧
      (let e := (watching { entry1 with source := .decelEstimate } worked).tables.monitor[7]
       e.enabled = true ∧ e.source = .decelEstimate) := by decide

/-- The state of the invariants' witnesses: CONFIG, a step of the count waiting. -/
def stepping : State := { asked .config 0x01 [] with pending := [.countStep] }

theorem witness_DemandStaysSound : stepping.DemandSound ∧ step stepping = .next (nextOr (step stepping) stepping) :=
  ⟨⟨by decide, by decide, by decide, by decide, by decide⟩, rfl⟩
theorem witness_SlideLimitStaysUnderTheCeiling : stepping.SlideSound ∧ step stepping = .next (nextOr (step stepping) stepping) :=
  ⟨⟨fun i => by fin_cases i <;> exact rfl, by decide⟩, rfl⟩
theorem witness_OutcomesStayBalanced : stepping.OutcomesBalanced ∧ step stepping = .next (nextOr (step stepping) stepping) :=
  ⟨by unfold State.OutcomesBalanced NodeRec.Balanced; decide, rfl⟩
theorem witness_EventsStayDistinct : stepping.EventsDistinct ∧ step stepping = .next (nextOr (step stepping) stepping) :=
  ⟨⟨by decide, by decide⟩, rfl⟩
theorem witness_StoreStaysSound : stepping.StoreSound ∧ step stepping = .next (nextOr (step stepping) stepping) :=
  ⟨⟨by decide, by decide, by decide, by decide, by decide, by decide, by decide, by decide⟩, rfl⟩
theorem witness_RingStaysConsecutive : stepping.RingSound ∧ step stepping = .next (nextOr (step stepping) stepping) :=
  ⟨⟨trivial, by decide, by decide, by decide⟩, rfl⟩
theorem witness_PartRestsOutsideRun :
    (stepping.RestsOutsideRun ∧ stepping.controlLineRight) ∧ step stepping = .next (nextOr (step stepping) stepping) :=
  ⟨⟨fun _ => ⟨by decide, by decide, by decide, by decide, by decide, by decide, by decide, by decide, by decide⟩, rfl⟩, rfl⟩
theorem witness_QueuesStayBounded : stepping.QueuesBounded ∧ step stepping = .next (nextOr (step stepping) stepping) :=
  ⟨⟨⟨by decide, by decide, by decide, by decide⟩, ⟨by decide, by decide, by decide, by decide⟩, by decide⟩, rfl⟩

theorem witness_EpochPublishesItsTargets :
    ¬ Timer.due State.reset.blend.timer State.reset.now ∧ expiring.blend.timer = some 1000 ∧ 0 ≤ elapsed 1000 expiring.now := by
  decide

/-- The part is still in RUN after that epoch, whatever the order of its reactions. -/
theorem witness_EpochPublishesItsTargets_run (o : Order3) :
    (Order3.run o State.orderAll State.takeSnapshot State.monitorPublication (State.computeEpoch .regular expiring).drawn).agent.part
      = PartState.run := by
  cases o <;> decide

/-- Caps of the halves themselves; the power-on curve below, at and above its breakpoints. -/
theorem witness_AirTargetIsSharedAndAchieved :
    let c := Tables.powerOn.curve
    let p (k : Nat) : CurvePoint := c.points.toList.getD k ⟨0, 0⟩
    ((285 + 1) / 2 ≤ 143 ∧ 285 / 2 ≤ 142) ∧ (2 ≤ c.count ∧ c.count ≤ 16 ∧ (p 0).speed = 0) ∧
      (∀ k, k < 3 → k + 1 < c.count ∧ (p k).speed < (p (k + 1)).speed) ∧ ¬ 3 + 1 < c.count ∧ (p (c.count - 1)).speed ≤ 12000 ∧
      ((p 0).speed ≤ 499 ∧ 499 < (p 1).speed) ∧ ((p 1).speed ≤ 500 ∧ 500 < (p 2).speed) := by decide

/-- An output below, at and above its target; and jerks on and off. -/
theorem witness_OutputsMoveByTheirSteps :
    let a : AxleDrive := { target := 0, output := 466, slope := 600 }
    a.output < 467 ∧ (465 : Nat) < a.output ∧ 466 = a.output ∧ RampSet.powerOn.jerk ≠ 0 ∧ { RampSet.powerOn with jerk := 0 }.jerk = 0 := by
  decide

theorem witness_ClearFallbackClearsTheFlag : (asked .run 0x09 []).asks (head 0x09 []) [] 0x09 := ⟨rfl, rfl⟩

/-- The part of section 5.11 with the states of axles 0 and 1, and truck 1's lockout, as given. -/
def sliding (x y : SlideState) (locked : Bool) : State :=
  let a (st : SlideState) : AxleSlide := { AxleSlide.powerOn with state := st, limit := some 100, ceiling := some 200 }
  { worked with slide :=
      { axles := (SlideBlock.powerOn.axles.set 0 (a x)).set 1 (a y)
        trucks := SlideBlock.powerOn.trucks.set 0 { TruckSlide.powerOn with request := .hold, timer := some 5, lockedOut := locked } } }

/-- Slip at the release value, above it, and a limit below and at its ceiling; a truck locked out; two axles in RELIEF, one whose
output is 0 under air, one in HOLD, and none. -/
theorem witness_SlideTimersAndReliefRequests :
    let inRelief (s : State) := ([0, 1, 2] : List AxleSlot).countP fun i => decide (s.slide.axles[i].state = .relief)
    let dry : State := { sliding .relief .normal false with blend := { worked.blend with axles := vec6 fun _ => ⟨0, 0, 0⟩ } }
    ¬ Timer.due State.reset.slide.axles[0].holdTimer State.reset.now ∧
      (Timer.due expiring.slide.axles[1].holdTimer expiring.now ∧
        ¬ expiring.slide.axles[1].slip ≤ expiring.tables.slide.slipRelease) ∧
      (Timer.due expiring.slide.axles[0].holdTimer expiring.now ∧ expiring.slide.axles[0].slip ≤ expiring.tables.slide.slipRelease ∧
        expiring.slide.axles[0].limit = some 100 ∧ expiring.slide.axles[0].ceiling = some 200) ∧
      ¬ Timer.due State.reset.slide.trucks[0].timer State.reset.now ∧ Timer.due expiring.slide.trucks[1].timer expiring.now ∧
      (sliding .relief .relief true).slide.trucks[0].lockedOut = true ∧ (sliding .relief .relief false).slide.trucks[0].lockedOut = false ∧
      2 ≤ inRelief (sliding .relief .relief false) ∧
      (inRelief dry < 2 ∧ dry.slide.axles[0].state = .relief ∧ dry.blend.axles[0].output = 0 ∧
        (dry.node (valveOf 0)).achieved = some 58 ∧ dry.tables.truck[0].dead < 58) ∧
      (inRelief (sliding .hold .normal false) = 0 ∧ (sliding .hold .normal false).slide.axles[0].state = .hold) ∧
      (inRelief (sliding .normal .normal false) = 0 ∧ (sliding .normal .normal false).slide.axles[1].state ≠ .hold) := by decide

/-- Axle 0 VALID under a VALID reference of 30 km/h, in a state of the slide controller and with an onset count. -/
def gliding (st : SlideState) (count : Nat) : State :=
  let s := sliding st .normal false
  { s with speed := { axles := s.speed.axles.set 0 { s.speed.axles[0] with validity := .valid }, ref := refAt 0 3000 0 }
           slide := { s.slide with axles := s.slide.axles.set 0 { s.slide.axles[0] with onset := count } } }

/-- The controller inactive below the minimum speed and active at it; onset at 60 per mille, none at 59; the onset count one short of
its setting and at it; and every state, with the limit and ceiling that REAPPLY needs. -/
theorem witness_SlideEvaluationFollowsTheCycle :
    let g (speed : Nat) (turn : Bool) : GoodEntry := { axle := 0, speed := speed, decel := 0, trend := .flat, turn := turn, gap := 20000 }
    let set := worked.tables.slide
    (∀ st n, (gliding st n).slide.axles[0].state = st ∧ (gliding st n).agent.part = .run ∧ (gliding st n).speed.ref.state = .valid ∧
      (gliding st n).speed.axles[0].validity = .valid ∧ (gliding st n).slide.axles[0].limit = some 100 ∧
      (gliding st n).slide.axles[0].ceiling = some 200 ∧ (gliding st n).slide.axles[0].onset = n) ∧
      (set.minSpeed ≤ (gliding .normal 0).speed.ref.value ∧ set.minSpeed ≤ 300 ∧ ¬ set.minSpeed ≤ 299 ∧ State.reset.agent.part ≠ .run) ∧
      (set.slipOnset ≤ (3000 - (g 2820 false).speed) * 1000 / 3000 ∧ ¬ set.slipOnset ≤ (3000 - (g 2821 false).speed) * 1000 / 3000 ∧
        ¬ set.absoluteOnset ≤ 3000 - 2821 ∧ ¬ (set.decelOnset : Int) ≤ (g 2821 false).decel) ∧
      (set.onsetCount ≤ 1 + 1 ∧ 0 + 1 < set.onsetCount) ∧ ((g 2820 true).turn = true ∧ (g 2820 false).turn = false ∧ (g 2820 false).trend ≠ .accel) ∧
      (200 ≤ 194 + set.reapplyRate * 20000 / 1000000 ∧ 100 + set.reapplyRate * 20000 / 1000000 < 200) ∧
      (∀ m : Fin 8, worked.tables.monitor[m].enabled = false) ∧
      (let e := (watching { entry1 with source := .axleSlip 0 } worked).tables.monitor[7]
       e.enabled = true ∧ e.source = .axleSlip 0) := by
  refine ⟨fun _ _ => ⟨rfl, rfl, rfl, rfl, rfl, rfl, rfl⟩, by decide⟩

/-- Node slot 2's third miss in ACTIVE, node slot 3's tenth in DEGRADED, and node slot 0 JOINING with no node in service. -/
theorem witness_DeadlineEndsTheExchangeMissed :
    ¬ Timer.due (State.reset.node 0).exch.deadline State.reset.now ∧
      (∀ n : NodeSlot, Timer.due (expiring.node n).exch.deadline expiring.now ∧ (expiring.node n).exch.awaiting = true) ∧
      ((expiring.node 2).sup.state = .active ∧
        expiring.tables.node[2].degrade ≤ ((ran (.exchangeDeadlineExpiry 2) expiring).node 2).sup.missRun) ∧
      ((expiring.node 3).sup.state = .degraded ∧
        expiring.tables.node[3].lost ≤ ((ran (.exchangeDeadlineExpiry 3) expiring).node 3).sup.missRun) ∧
      ((expiring.node 0).sup.state = .joining ∧ expiring.servingNodes = 0) := by decide

/-- Node slot 2 of section 8.10 alone is present: a part state, its supervision record, whether its exchange is AWAITING, and how many
originated frames wait at Port B. -/
def supervised (p : PartState) (sup : Supervision) (awaiting : Bool) (waiting : Nat) : State :=
  let s := withWaiting 0 waiting ordering
  { s with agent := { s.agent with part := p, queue := [⟨.a, 0, 0x02, 0x07, 0x21, [2]⟩] }
           order := { s.order with
             nodes := s.order.nodes.set 2 ({ node2 with
               sup := sup, exch := { node2.exch with awaiting := awaiting, tag := 139, control := .holdControl } }) } }

/-- The last node in service is lost at its deadline in RUN. -/
theorem witness_DeadlineEndsTheExchangeMissed_lastNode :
    let s := (supervised .run ⟨.degraded, 0, 9⟩ true 0).onNode 2 fun x => { x with exch := { x.exch with deadline := some 1000000 } }
    Timer.due (s.node 2).exch.deadline s.now ∧ (s.node 2).exch.awaiting = true ∧ s.agent.part = .run ∧ 0 < s.servingNodes ∧
      (ran (.exchangeDeadlineExpiry 2) s).servingNodes = 0 := by decide

/-- No argument, node slot 8, and node slot 2: not cut and cut, in RUN with 11 and 12 frames at Port B, the last node in service. -/
theorem witness_NodesAreCutAndRestored :
    (∀ k args, (asked .run k args).asks (head k args) [] k) ∧ 8 ≤ (8 : Byte).toNat ∧ (head 0x07 [2]).args = [BitVec.ofNat 8 (2 : NodeSlot).val] ∧
      (∀ p sup w n, (supervised p sup w n).asks (head 0x07 [2]) [] 0x07 ∧ (supervised p sup w n).agent.part = p ∧
        ((supervised p sup w n).node 2).sup = sup ∧ (supervised p sup w n).tables.node[2].present = true ∧
        (supervised p sup w n).link.portB.originated = List.replicate n ⟨.response, [2]⟩) ∧
      (0 < (supervised .run ⟨.active, 4, 0⟩ true 11).servingNodes ∧
        ((supervised .run ⟨.active, 4, 0⟩ true 11).onNode 2 fun x => { x with sup := ⟨.cutOut, 0, 0⟩ }).servingNodes = 0) :=
  ⟨fun _ _ => ⟨rfl, rfl⟩, by decide, rfl, fun _ _ _ _ => ⟨⟨rfl, rfl⟩, rfl, rfl, rfl, rfl⟩, by decide⟩

/-- The timer due and not; the outcome that joins node slot 2, that loses it, and one that leaves it in service or out of it. -/
theorem witness_ControlLossEntersFailsafe :
    let joining := supervised .run ⟨.joining, 3, 0⟩ false 0
    let degraded := supervised .run ⟨.degraded, 0, 9⟩ false 0
    ¬ Timer.due State.reset.order.controlLoss State.reset.now ∧ Timer.due expiring.order.controlLoss expiring.now ∧
      expiring.agent.part = .run ∧ (joining.servingNodes = 0 ∧ 0 < (joining.takeOutcome 2 true).servingNodes) ∧
      (joining.servingNodes = 0 ∧ (joining.takeOutcome 2 false).servingNodes = 0) ∧
      (degraded.agent.part = .run ∧ 0 < degraded.servingNodes ∧ (degraded.takeOutcome 2 false).servingNodes = 0) ∧
      (0 < degraded.servingNodes ∧ 0 < (degraded.takeOutcome 2 true).servingNodes) := by decide

/-- RUN and not; a slot that is not present, one cut out, one IDLE with 11 and with 12 frames at Port B, and one AWAITING. -/
theorem witness_OrdersFollowEachPublication :
    ordering.agent.part = .run ∧ State.reset.agent.part ≠ .run ∧ ordering.tables.node[0].present = false ∧
      (∀ p sup w n, (supervised p sup w n).tables.node[2].present = true ∧ ((supervised p sup w n).node 2).sup = sup ∧
        ((supervised p sup w n).node 2).exch.awaiting = w) ∧
      (supervised .run ⟨.active, 4, 0⟩ false 11).link.portB.originated.length < 12 ∧
      12 ≤ (supervised .run ⟨.lost, 0, 9⟩ false 12).link.portB.originated.length :=
  ⟨rfl, by decide, rfl, fun _ _ _ _ => ⟨rfl, rfl, rfl⟩, by decide, by decide⟩

/-- A payload of 5 bytes, a slot not present, status 4, and a report in order of slot 2; an IDLE exchange; another tag; an exchange
AWAITING under HOLD_CONTROL with its own tag, of an inverter and of a valve unit; and one under RELEASE_CONTROL. -/
theorem witness_ReportsAreMatched :
    let payload (f : Frame) := (f.drop 5).take (f.length - 7)
    let released := expiring.onNode 6 fun x => { x with exch := { x.exch with control := .releaseControl } }
    ((payload (buildFrame 0xE0 0x62 0x32 1 [140, 0, 1, 219, 0])).length ≠ 6 ∧ ordering.tables.node[0].present = false ∧ 3 < (4 : Byte).toNat ∧
      ordering.tables.node[2].present = true ∧ (payload (buildFrame 0xE0 0x62 0x32 1 [140, 3, 1, 219, 0, 0])).length = 6) ∧
      (State.reset.node 2).exch.awaiting = false ∧ (expiring.node 2).exch.tag ≠ 139 ∧
      (∀ n : NodeSlot, (expiring.node n).exch.awaiting = true ∧ (expiring.node n).exch.tag = 140 ∧ (expiring.node n).exch.control = .holdControl) ∧
      ((released.node 6).exch.awaiting = true ∧ (released.node 6).exch.tag = 140 ∧ (released.node 6).exch.control = .releaseControl) ∧
      (6 ≤ (6 : NodeSlot).val ∧ ¬ 6 ≤ (5 : NodeSlot).val) := by
  decide

/-- Three values above the threshold of entry 0, and values above its release level once it is active; each kind of condition. -/
theorem witness_MonitorEntriesFire :
    let below : MonEntry := { entry0 with condition := .below }
    entry0.condition = .above ∧ 1 ≤ entry0.persistence ∧ RunState.powerOn.active = false ∧ RunState.powerOn.count = 0 ∧
      (∀ v ∈ [(401 : Int), 500, 401], entry0.threshold < v) ∧ [(401 : Int), 500, 401].length = entry0.persistence ∧
      (∀ v ∈ [(251 : Int), 500], entry0.threshold - entry0.hysteresis < v) ∧
      (below.condition = .below ∧ (399 : Int) < below.threshold ∧ ¬ (400 : Int) < below.threshold ∧
        below.threshold + below.hysteresis ≤ 550 ∧ ¬ below.threshold + below.hysteresis ≤ 549) ∧
      (0 + 1 < entry0.persistence ∧ entry0.persistence ≤ 2 + 1) ∧ (entry1.condition ≠ .above ∧ entry1.condition ≠ .below) ∧
      State.reset.agent.part ≠ .run ∧ worked.agent.part = .run := by decide

/-- A pending event, one that is not, and notices off, refused and queued. -/
theorem witness_RaiseCountsOrCreates :
    let noticing (s : State) : State := { s with tables := { s.tables with link := { noticeAddress := 0x02, noticePort := .b } } }
    ((State.reset.raise .refHeld).isPending .refHeld = true) ∧ (State.reset.isPending .refHeld = false) ∧
      State.reset.tables.link.noticeAddress = 0 ∧ (noticing State.reset).tables.link.noticeAddress ≠ 0 ∧
      (noticing State.reset).isPending .refHeld = false ∧
      ((noticing (withWaiting 0 11 State.reset)).port .b).originated.length < 12 ∧
      ¬ ((noticing (withWaiting 0 12 State.reset)).port .b).originated.length < 12 := by decide

theorem witness_ReadEventsTakesTheOldestFour : (asked .run 0x06 []).asks (head 0x06 []) [] 0x06 := ⟨rfl, rfl⟩

theorem witness_TriggerAndRelease :
    (asked .run 0x0A [1]).asks (head 0x0A [1]) [] 0x0A ∧ (asked .config 0x0A []).asks (head 0x0A []) [] 0x0A ∧
      (asked .run 0x0A []).asks (head 0x0A []) [] 0x0A ∧ (asked .run 0x0A []).agent.part = .run ∧
      (asked .config 0x0A []).agent.part ≠ .run ∧ (asked .pass 0x13 [0]).asks (head 0x13 [0]) [] 0x13 ∧
      (asked .pass 0x13 [0, 34]).asks (head 0x13 [0, 34]) [] 0x13 :=
  ⟨⟨rfl, rfl⟩, ⟨rfl, rfl⟩, ⟨rfl, rfl⟩, rfl, by decide, ⟨rfl, rfl⟩, rfl, rfl⟩

/-- The store of section 10.9 in RUN with a ring and an OPEN incident as asked for. -/
def recording (ring : Nat) (xs : List Incident) : State :=
  { worked with recorder := { worked.recorder with ring := List.replicate ring State.reset.snapshot, incidents := xs } }

/-- Outside RUN; a cause the mask leaves out; an OPEN incident; room without freeing; the store of section 10.9, which has room once two
incidents are freed and not after one; and one that none may be freed from. -/
theorem witness_IncidentsOpenExtendAndClose :
    let fits (xs : List Incident) := 16 + 32 ≤ 1024 - (xs.map fun x => if x.state = .opened then x.reserved else x.snaps.length).sum ∧
      xs.length < 16
    let stays (x : Incident) := decide (x.state ≠ .closedRead)
    let unread := [closed 1 1000 .closedUnread]
    State.reset.agent.part ≠ .run ∧ worked.agent.part = .run ∧ (63 : Nat) / 8 % 2 = 1 ∧ ¬ (55 : Nat) / 8 % 2 = 1 ∧
      worked.tables.recorder.causeMask = 63 ∧ worked.tables.recorder.post = 32 ∧ worked.tables.recorder.policy = .keepUnread ∧
      (∃ x ∈ (recording 16 [incident34]).recorder.incidents, x.state = .opened) ∧
      (∀ x ∈ (recording 16 store).recorder.incidents, x.state ≠ .opened) ∧ (recording 16 store).recorder.ring.length = 16 ∧
      fits [] ∧ fits (store.filter stays) ∧ fits ((store.take 3).filter stays ++ store.drop 3) ∧
      (∀ j, j < 3 → ¬ fits ((store.take j).filter stays ++ store.drop j)) ∧ ¬ fits unread ∧ ¬ fits (unread.filter stays) := by decide

/-- The part with three incidents: 20 closed with two snapshots, 21 closed with none, 34 OPEN. -/
def holding (kind : Byte) (args : List Byte) : State :=
  let s := asked .run kind args
  { s with recorder := { s.recorder with
      incidents := [closed 20 2 .closedUnread, closed 21 0 .closedUnread, { closed 34 1 .opened with remaining := 1, reserved := 2 }] } }

/-- The list; a header's arguments of one byte, number 33 not held, numbers 20 and 21 held. -/
theorem witness_RecordListAndHeader :
    (holding 0x10 []).asks (head 0x10 []) [] 0x10 ∧ (∀ args, (holding 0x11 args).asks (head 0x11 args) [] 0x11) ∧
      (∀ x ∈ (holding 0x11 [0, 33]).recorder.incidents, x.number ≠ ofBytes [0, 33]) ∧
      ((holding 0x11 [0, 20]).recorder.incidents.find? fun x => x.number = ofBytes [0, 20]) = some (closed 20 2 .closedUnread) ∧
      ((holding 0x11 [0, 21]).recorder.incidents.find? fun x => x.number = ofBytes [0, 21]) = some (closed 21 0 .closedUnread) :=
  ⟨⟨rfl, rfl⟩, fun _ => ⟨rfl, rfl⟩, by decide, rfl, rfl⟩

/-- An incident not held, the OPEN one, and the closed one of two snapshots with indexes 1 and 2, parts 0 to 3. -/
theorem witness_RecordReadReturnsSnapshots :
    (∀ args, (holding 0x12 args).asks (head 0x12 args) [] 0x12) ∧
      ((holding 0x12 []).recorder.incidents.find? fun x => x.number = ofBytes [0, 33]) = none ∧
      (((holding 0x12 []).recorder.incidents.find? fun x => x.number = ofBytes [0, 34]).map Incident.state) = some .opened ∧
      ((holding 0x12 []).recorder.incidents.find? fun x => x.number = ofBytes [0, 20]) = some (closed 20 2 .closedUnread) ∧
      (closed 20 2 .closedUnread).state ≠ .opened ∧ (closed 20 2 .closedUnread).snaps.length ≤ (2 : Byte).toNat ∧
      (closed 20 2 .closedUnread).snaps[(1 : Byte).toNat]? = some State.reset.snapshot ∧ 2 < (3 : Byte).toNat :=
  ⟨fun _ => ⟨rfl, rfl⟩, rfl, rfl, rfl, by decide, by decide, rfl, by decide⟩

theorem witness_IncidentLineGivesItsTrigger :
    State.reset.recorder.lineActive = false ∧ expiring.recorder.lineActive = true ∧
      ¬ Timer.due State.reset.recorder.debounce State.reset.now ∧ Timer.due expiring.recorder.debounce expiring.now ∧
      ({ expiring with agent := { expiring.agent with part := .config } } : State).agent.part ≠ .run ∧ expiring.agent.part = .run ∧
      expiring.tables.recorder.causeMask / 32 % 2 = 1 ∧ (∀ x ∈ expiring.recorder.incidents, x.state ≠ .opened) ∧
      expiring.recorder.ring.length + expiring.tables.recorder.post ≤ 1024 - slotsHeld expiring.recorder.incidents ∧
      expiring.recorder.incidents.length < 16 := by decide

/-- GET_STATE, and the unknown kind 64. -/
theorem witness_GetStateAndUnknownKinds :
    (asked .pass 0x01 []).asks (head 0x01 []) [] 0x01 ∧ (asked .pass 0x40 []).agent.queue = [head 0x40 []] ∧
      (head 0x40 []).kind.toNat ∉ [1, 2, 3, 4, 5, 6, 7, 8, 9, 10, 16, 17, 18, 19, 32, 33, 34, 35, 48, 63] :=
  ⟨⟨rfl, rfl⟩, rfl, by decide⟩

/-- No argument; 4; the present state; each target from each state; and RUN without standstill. -/
theorem witness_SetStateOutsideRun :
    (∀ p args, (asked p 0x02 args).asks (head 0x02 args) [] 0x02 ∧ (asked p 0x02 args).agent.part = p) ∧ 3 < (4 : Byte).toNat ∧
      (1 : Byte).toNat = (asked .config 0x02 [1]).agent.part.code.toNat ∧
      ¬ ((asked .run 0x02 [0]).speed.ref.state = .valid ∧ (asked .run 0x02 [0]).speed.ref.value = 0) :=
  ⟨fun _ _ => ⟨⟨rfl, rfl⟩, rfl⟩, by decide, by decide, by decide⟩

/-- Tables that pass every check: those of power-on with a demand entry and an entry for the six axles' samples. -/
def validTables : Tables :=
  let demands : ClassEntry := ⟨true, 0x10, 0x11, .a, .consume, .demand 0⟩
  let samples : ClassEntry := ⟨true, 0x40, 0x21, .b, .observe, .axleSample 0 5⟩
  { Tables.powerOn with classify := (Tables.powerOn.classify.set 0 demands).set 1 samples }

/-- The request for RUN with tables that fail and with tables that pass. -/
theorem witness_RunEntryIsValidated :
    let s := asked .config 0x02 [2]
    s.asks (head 0x02 [2]) [] 0x02 ∧ (head 0x02 [2]).args = [2] ∧ s.agent.part = .config ∧ s.tables.validate ≠ 0 ∧
      { s with tables := validTables }.tables.validate = 0 :=
  ⟨⟨rfl, rfl⟩, rfl, rfl, by decide, by decide⟩

/-- Validation names the last check when only the recorder's depths fail it. -/
theorem witness_ValidationNamesTheFirstFailure :
    validTables.validate = 0 ∧ Tables.powerOn.validate = 1 ∧
      { validTables with recorder := { validTables.recorder with maximum := 47 } }.validate = 10 := by decide

/-- PASS and CONFIG asked for at standstill, and FAILSAFE. -/
theorem witness_LeavingRunBringsRest :
    let still (b : Byte) : State :=
      let s := asked .run 0x02 [b]
      { s with speed := { s.speed with ref := refAt 0 0 0 } }
    (∀ b, (still b).asks (head 0x02 [b]) [] 0x02 ∧ (still b).agent.part = .run ∧ (still b).speed.ref.state = .valid ∧
      (still b).speed.ref.value = 0) :=
  fun _ => ⟨⟨rfl, rfl⟩, rfl, rfl, rfl⟩

/-- Every argument list that the clauses name is met; pages 0 to 3 and 4, sections 4 and 2, pages and clear options of LINK. -/
theorem witness_PartAndLinkStatus :
    (∀ args, (asked .run 0x05 args).asks (head 0x05 args) [] 0x05) ∧ 3 < (4 : Byte).toNat ∧ ([] : List Byte).length ≠ 1 ∧ ([] : List Byte).length ≠ 2 ∧
      (1 : Byte).toNat ≤ 1 ∧ 1 < (2 : Byte).toNat :=
  ⟨fun _ => ⟨rfl, rfl⟩, by decide, by decide, by decide, by decide, by decide⟩

/-- An argument; RUN; and CONFIG with Port A's line IDLE, with 11 frames before the response, and with 12. -/
theorem witness_ResetKeepsWhatItMust :
    (∀ p args, (asked p 0x3F args).asks (head 0x3F args) [] 0x3F ∧ (asked p 0x3F args).agent.part = p) ∧
      ((asked .config 0x3F []).port .a).line = .idle ∧ ((asked .config 0x3F []).port .a).forward = [] ∧
      ((asked .config 0x3F []).port .a).originated = [] ∧
      (∀ n, (withWaiting 0 n (asked .config 0x3F [])).asks (head 0x3F []) [] 0x3F) ∧
      ((withWaiting 0 11 (asked .config 0x3F [])).port .a).line ≠ .idle ∧
      ((withWaiting 0 11 (asked .config 0x3F [])).port .a).originated.length < 12 ∧
      ¬ ((withWaiting 0 12 (asked .config 0x3F [])).port .a).originated.length < 12 :=
  ⟨fun _ _ => ⟨⟨rfl, rfl⟩, rfl⟩, rfl, rfl, rfl, fun _ => ⟨rfl, rfl⟩, by decide, by decide, by decide⟩

end Sys2Proof.Tests
end

/-! Reading and changing a port, and the invariants of the ports: what a frame accepted into an originated queue, a frame
withdrawn from it and a frame placed in a forward queue keep, the handling of an event keeps. -/

namespace Sys2Proof.Machine

/-! ## One port read and changed -/

/-- A change of one port is a change of that port alone. -/
theorem State.onPort_port (p q : Port) (f : PortState → PortState) (s : State) :
    (s.onPort p f).port q = if p = q then f (s.port p) else s.port q := by
  cases p <;> cases q <;> rfl

@[simp] theorem State.onPort_port_same (p : Port) (f : PortState → PortState) (s : State) :
    (s.onPort p f).port p = f (s.port p) := by
  simp [State.onPort_port]

theorem otherPort_ne (p : Port) : p ≠ otherPort p := by cases p <;> decide

@[simp] theorem State.onPort_port_otherPort (p : Port) (f : PortState → PortState) (s : State) :
    (s.onPort p f).port (otherPort p) = s.port (otherPort p) := by
  simp [State.onPort_port, otherPort_ne]

/-- Two changes of one port are one change. -/
theorem State.onPort_onPort (p : Port) (f g : PortState → PortState) (s : State) :
    (s.onPort p f).onPort p g = s.onPort p fun x => g (f x) := by
  cases p <;> rfl

@[simp] theorem State.onPort_own (p : Port) (f : PortState → PortState) (s : State) : (s.onPort p f).link.own = s.link.own := by
  cases p <;> rfl

/-- A change of one port depends on what it makes of that port as it stands. -/
theorem State.onPort_congr {p : Port} {f g : PortState → PortState} {s : State} (h : f (s.port p) = g (s.port p)) :
    s.onPort p f = s.onPort p g := by
  simp only [State.onPort, h]

/-- What the acceptance of a frame makes of the ports. -/
theorem State.accept_port (p : Port) (o : Origin) (d k : Byte) (b : List Byte) (s : State) :
    (s.accept p o d k b).port = (s.onPort p fun x => PortState.settle
      { x with originated := x.originated ++ [⟨o, buildFrame d s.link.own k s.link.txSeq b⟩] }).port := rfl

/-! ## Invariants of the ports -/

/-- A port without its reception stamp and its overflow and transmission counters. -/
def PortState.core (x : PortState) : PortState := { x with rx := none, overflow := 0, transmitted := 0 }

/-- `P` speaks of the ports' queues, arbiters and reception counters and of the request queue alone, and frames that are accepted
into an originated queue or withdrawn from one keep it. -/
structure PortInvariant (P : State → Prop) : Prop where
  congr : ∀ s t, (∀ q, (t.port q).core = (s.port q).core) → t.agent.queue = s.agent.queue → P s → P t
  accept : ∀ p o d k b s, s.hasRoom p = true → P s → P (s.accept p o d k b)
  withdraw : ∀ g s, (∀ q : List OrigFrame, (g q).Sublist q) → P s → P (s.keepOriginated g)

namespace PortInvariant

variable {P : State → Prop}

/-- What leaves the link block and the request queue as they are keeps `P`. -/
theorem of_link (h : PortInvariant P) {s t : State} (hs : P s) (hl : t.link = s.link := by rfl)
    (ha : t.agent.queue = s.agent.queue := by rfl) : P t :=
  h.congr s t (fun q => by simp only [State.port, hl]) ha hs

theorem offer (h : PortInvariant P) (p : Port) (o : Origin) (d k : Byte) (b : List Byte) (s : State) (hs : P s) :
    P (s.offer p o d k b) := by
  unfold State.offer
  split
  · exact h.accept _ _ _ _ _ _ ‹_› hs
  · exact hs

theorem raise (h : PortInvariant P) (e : EventId) (s : State) (hs : P s) : P (s.raise e) := by
  unfold State.raise
  split
  · exact h.of_link hs
  · refine h.of_link (s := s.sendNotice e) ?_
    unfold State.sendNotice
    split
    · exact hs
    · exact h.offer _ _ _ _ _ _ hs

theorem trigger (h : PortInvariant P) (c : Cause) (s : State) (hs : P s) : P (s.trigger c) := by
  unfold State.trigger
  split
  · split
    · exact h.of_link hs
    · split
      · exact h.of_link hs
      · exact h.of_link (h.raise .recordLost s hs)
  · exact hs

/-! ### Order unit -/

theorem withdrawNode (h : PortInvariant P) (n : NodeSlot) (s : State) (hs : P s) : P (s.withdrawNode n) :=
  h.withdraw _ _ (fun _ => List.filter_sublist) hs

theorem withdrawNewest (h : PortInvariant P) (n : NodeSlot) (s : State) (hs : P s) : P (s.withdrawNewest n) := by
  refine h.withdraw _ _ (fun q => ?_) hs
  have : (q.reverse.eraseP fun f => f.origin = .order n).Sublist q.reverse := List.eraseP_sublist
  simpa using this.reverse

theorem judgeControlLoss (h : PortInvariant P) (n : Nat) (s : State) (hs : P s) : P (s.judgeControlLoss n) :=
  h.of_link hs (by simp) (by simp)

theorem transitionEffects (h : PortInvariant P) (n : NodeSlot) (x y : NodeState) (s : State) (hs : P s) :
    P (s.transitionEffects n x y) := by
  unfold State.transitionEffects
  split
  · exact h.raise _ _ hs
  · split
    · exact h.withdrawNode _ _ (h.trigger _ _ (h.raise _ _ hs))
    · exact hs

theorem takeOutcome (h : PortInvariant P) (n : NodeSlot) (good : Bool) (s : State) (hs : P s) : P (s.takeOutcome n good) :=
  h.judgeControlLoss _ _ (h.transitionEffects _ _ _ _ (h.of_link hs))

theorem supersede (h : PortInvariant P) (n : NodeSlot) (s : State) (hs : P s) : P (s.supersede n) := by
  unfold State.supersede
  split
  · exact h.withdrawNewest _ _ (h.takeOutcome _ _ _ (h.of_link hs))
  · exact hs

theorem issueOrder (h : PortInvariant P) (n : NodeSlot) (s : State) (hs : P s) : P (s.issueOrder n) := by
  unfold State.issueOrder
  simp only
  split
  · exact h.of_link (h.accept .b (.order n) _ _ _ s ‹_› hs)
  · exact h.takeOutcome _ _ _ (h.of_link hs)

theorem orderNode (h : PortInvariant P) (n : NodeSlot) (s : State) (hs : P s) : P (s.orderNode n) := by
  unfold State.orderNode
  split
  · exact h.issueOrder _ _ (h.supersede _ _ hs)
  · exact hs

theorem matchReport (h : PortInvariant P) (n : NodeSlot) (c : Count) (g : Byte) (x y z : Nat) (s : State) (hs : P s) :
    P (s.matchReport n c g x y z) := by
  unfold State.matchReport
  simp only
  split
  · have ho := h.takeOutcome n (reportGood x (s.node n).exch.control) _
      (h.of_link (t := s.onNode n (NodeRec.answered (reportGood x (s.node n).exch.control) c)) hs)
    split
    · exact h.of_link ho
    · exact ho
  · exact h.of_link hs

theorem missDeadline (h : PortInvariant P) (n : NodeSlot) (s : State) (hs : P s) : P (s.missDeadline n) := by
  unfold State.missDeadline
  split
  · exact h.takeOutcome _ _ _ (h.of_link hs)
  · exact hs

theorem offerRelease (h : PortInvariant P) (n : NodeSlot) (s : State) (hs : P s) : P (s.offerRelease n) := by
  unfold State.offerRelease
  split
  · exact h.accept _ _ _ _ _ _ ‹_› hs
  · exact h.of_link hs

theorem cutNode (h : PortInvariant P) (n : NodeSlot) (s : State) (hs : P s) : P (s.cutNode n) := by
  unfold State.cutNode
  simp only
  split
  · exact hs
  · refine h.judgeControlLoss _ _ ?_
    have hw := h.withdrawNode n _ (h.of_link (t := s.onNode n fun r => { r.abandon with
      sup := { state := .cutOut, goodRun := 0, missRun := 0 } }) hs)
    split
    · exact h.offerRelease _ _ hw
    · exact hw

/-! ### Leaving RUN and epochs -/

theorem leaveRun (h : PortInvariant P) (p : PartState) (s : State) (hs : P s) : P (s.leaveRun p) := by
  refine foldl_keeps P State.releaseOnLeaving (fun t n ht => ?_) _ _ (h.withdraw _ _ (fun _ => List.filter_sublist) (h.of_link hs))
  unfold State.releaseOnLeaving
  split
  · exact h.offerRelease _ _ ht
  · exact ht

/-- An invariant of the ports is kept by monitor passes. -/
theorem keptByPasses (h : PortInvariant P) : KeptByPasses P where
  drawn _ hs := h.of_link hs
  raise := h.raise
  trigger c s _ hs := h.trigger c s hs
  failsafe _ _ _ _ hs := h.leaveRun _ _ (h.of_link (h.trigger _ _ hs))
  run _ _ _ hs := h.of_link hs
  fallback _ _ hs := h.of_link hs

theorem takeEpoch (h : PortInvariant P) (k : EpochKind) (s : State) (hs : P s) : P (s.takeEpoch k) := by
  refine h.keptByPasses.takeEpoch (fun n s _ => h.orderNode n s) (fun s hs => h.of_link hs (by simp) (by simp)) k s ?_
  unfold State.computeEpoch
  refine h.of_link (s := s.beginEpoch.noteUnplaced s.beginEpoch.targets.totals.unplaced) ?_
  unfold State.noteUnplaced
  refine h.of_link (s := if _ then _ else _) ?_
  have hb : P s.beginEpoch := h.of_link hs (by simp) (by simp)
  split
  · exact h.raise _ _ hb
  · exact hb

/-- An invariant of the ports that frames placed in a forward queue and requests handed to the agent keep is kept by the handling of
one event. -/
theorem keptWithin (h : PortInvariant P) (forward : ∀ p f s, s.forwardRoom p = true → P s → P (s.placeForward p f))
    (push : ∀ r s, s.agent.queue.length < 4 → P s → P { s with agent := { s.agent with queue := s.agent.queue ++ [r] } }) :
    KeptWithin P where
  toKeptByPasses := h.keptByPasses
  axleSpeed _ _ _ hs := h.of_link hs
  ref _ _ hs := h.of_link hs
  demand _ hs := h.of_link hs
  source _ _ _ _ _ _ _ _ hs := h.of_link hs
  restAxle _ _ hs := h.of_link hs
  slip _ _ _ hs := h.of_link hs
  evaluated _ _ hs := h.of_link hs
  extra _ _ hs := h.takeEpoch _ _ hs
  report _ _ _ _ _ _ _ _ hs := h.matchReport _ _ _ _ _ _ _ hs
  time _ _ hs := h.of_link hs
  overflow p s hs := h.congr s _ (fun q => by cases p <;> cases q <;> rfl) rfl hs
  unclaimed s hs := h.congr s _ (fun _ => rfl) rfl hs
  demandRefused s hs := h.congr s _ (fun _ => rfl) rfl hs
  sampleRefused s hs := h.congr s _ (fun _ => rfl) rfl hs
  reportRefused s hs := h.congr s _ (fun _ => rfl) rfl hs
  responseDropped s hs := h.congr s _ (fun _ => rfl) rfl hs
  accept := h.accept
  forward := forward
  push := push

end PortInvariant

end Sys2Proof.Machine

/-! The bounds of the queues and of the run counts (R17 to R19, R166), kept by every step. -/

namespace Sys2Proof.Machine

/-! ## Bounds of one port -/

theorem PortState.bounded_takeForward {x : PortState} {f : Frame} {rest : List Frame} (hf : rest.length ≤ 16)
    (ho : x.originated.length ≤ 12) : (x.takeForward f rest).Bounded :=
  ⟨hf, ho, Nat.zero_le _, nofun⟩

theorem PortState.bounded_takeOriginated {x : PortState} {o : OrigFrame} {rest : List OrigFrame} (hf : x.forward.length ≤ 16)
    (ho : rest.length ≤ 12) (hr : x.forward = [] ∨ x.run < 4) : (x.takeOriginated o rest).Bounded := by
  refine ⟨hf, ho, ?_, nofun⟩
  rcases hr with h | h
  · simp [PortState.takeOriginated, h]
  · simp only [PortState.takeOriginated]
    split <;> omega

/-- The arbiter's choice keeps the bounds, on a line of either state. -/
theorem PortState.bounded_choose {x : PortState} (hf : x.forward.length ≤ 16) (ho : x.originated.length ≤ 12) (hr : x.run ≤ 4) :
    x.choose.Bounded := by
  unfold PortState.choose
  split
  · exact ⟨hf, ho, hr, fun _ => ⟨‹_›, ‹_›⟩⟩
  · rename_i hfs _
    exact bounded_takeForward (by rw [hfs, List.length_cons] at hf; omega) ho
  · rename_i hfs hos
    exact bounded_takeOriginated hf (by rw [hos, List.length_cons] at ho; omega) (.inl hfs)
  · rename_i hfs hos
    split
    · exact bounded_takeForward (by rw [hfs, List.length_cons] at hf; omega) ho
    · exact bounded_takeOriginated hf (by rw [hos, List.length_cons] at ho; omega) (.inr (by omega))

/-- A placement within the bounds keeps them once the arbiter has settled. -/
theorem PortState.bounded_settle {x : PortState} (hf : x.forward.length ≤ 16) (ho : x.originated.length ≤ 12) (hr : x.run ≤ 4) :
    x.settle.Bounded := by
  unfold PortState.settle
  split
  · exact PortState.bounded_choose hf ho hr
  · exact ⟨hf, ho, hr, fun hi => absurd hi ‹_›⟩

/-- The bounds speak of nothing but the queues, the line and the run count. -/
theorem PortState.Bounded.of_queues {x y : PortState} (hx : x.Bounded) (hf : y.forward = x.forward := by rfl)
    (ho : y.originated = x.originated := by rfl) (hl : y.line = x.line := by rfl) (hr : y.run = x.run := by rfl) : y.Bounded :=
  ⟨hf ▸ hx.forward, ho ▸ hx.originated, hr ▸ hx.run, by rw [hl, hf, ho]; exact hx.idle⟩

theorem PortState.Bounded.of_core {x y : PortState} (hx : x.Bounded) (h : y.core = x.core) : y.Bounded :=
  hx.of_queues (congrArg PortState.forward h :) (congrArg PortState.originated h :) (congrArg PortState.line h :)
    (congrArg PortState.run h :)

/-- A soft reset leaves a port within its bounds when it keeps no more than the response that waits (R22). -/
theorem PortState.bounded_softReset {x : PortState} {kept : List OrigFrame} (hl : kept.length ≤ 1) (hi : x.line = .idle → kept = []) :
    (x.softReset kept).Bounded :=
  ⟨Nat.zero_le _, Nat.le_trans hl (by decide), Nat.zero_le _, fun h => ⟨rfl, hi h⟩⟩

theorem PortState.bounded_powerOn : PortState.powerOn.Bounded :=
  ⟨Nat.zero_le _, Nat.zero_le _, Nat.zero_le _, fun _ => ⟨rfl, rfl⟩⟩

/-! ## Bounds of the part -/

theorem State.queuesBounded_iff {s : State} : s.QueuesBounded ↔ (∀ q, (s.port q).Bounded) ∧ s.agent.queue.length ≤ 4 :=
  ⟨fun ⟨ha, hb, hq⟩ => ⟨fun | .a => ha | .b => hb, hq⟩, fun ⟨hp, hq⟩ => ⟨hp .a, hp .b, hq⟩⟩

/-- A change that leaves every port the same queues, line and run count, and no more requests, keeps the bounds. -/
theorem State.QueuesBounded.of_core {s t : State} (hs : s.QueuesBounded) (hp : ∀ q, (t.port q).core = (s.port q).core)
    (hq : t.agent.queue.length ≤ s.agent.queue.length) : t.QueuesBounded := by
  rw [State.queuesBounded_iff] at hs ⊢
  exact ⟨fun q => (hs.1 q).of_core (hp q), Nat.le_trans hq hs.2⟩

/-- A change of one port within its bounds keeps the bounds. -/
theorem State.QueuesBounded.onPort {s : State} (hs : s.QueuesBounded) {p : Port} {f : PortState → PortState}
    (hf : (s.port p).Bounded → (f (s.port p)).Bounded) : (s.onPort p f).QueuesBounded := by
  rw [State.queuesBounded_iff] at hs ⊢
  refine ⟨fun q => ?_, hs.2⟩
  rw [State.onPort_port]
  split
  · exact hf (hs.1 p)
  · exact hs.1 q

theorem State.QueuesBounded.accept {s : State} (hs : s.QueuesBounded) {p : Port} (hr : s.hasRoom p = true) (o : Origin) (d k : Byte)
    (b : List Byte) : (s.accept p o d k b).QueuesBounded := by
  have hroom : (s.port p).originated.length < 12 := by simpa [State.hasRoom] using hr
  have hplaced : (s.onPort p fun x => PortState.settle
      { x with originated := x.originated ++ [⟨o, buildFrame d s.link.own k s.link.txSeq b⟩] }).QueuesBounded :=
    hs.onPort fun hx => PortState.bounded_settle hx.forward (by simpa using hroom) hx.run
  exact hplaced.of_core (fun _ => rfl) (Nat.le_refl _)

theorem State.QueuesBounded.placeForward {s : State} (hs : s.QueuesBounded) {p : Port} (hr : s.forwardRoom p = true) (f : Frame) :
    (s.placeForward p f).QueuesBounded := by
  have hroom : (s.port p).forward.length < 16 := by simpa [State.forwardRoom] using hr
  exact hs.onPort fun hx => PortState.bounded_settle (by simpa using hroom) hx.originated hx.run

theorem State.QueuesBounded.keepOriginated {s : State} (hs : s.QueuesBounded) {g : List OrigFrame → List OrigFrame}
    (hg : ∀ q : List OrigFrame, (g q).Sublist q) : (s.keepOriginated g).QueuesBounded := by
  refine hs.onPort fun hx => ⟨hx.forward, Nat.le_trans (hg _).length_le hx.originated, hx.run, fun hi => ?_⟩
  obtain ⟨hf, ho⟩ := hx.idle hi
  refine ⟨hf, List.eq_nil_of_length_eq_zero (Nat.le_zero.1 ?_)⟩
  simpa [ho] using (hg (s.port .b).originated).length_le

/-- The bounds are an invariant of the ports. -/
theorem queuesBounded_portInvariant : PortInvariant State.QueuesBounded where
  congr _ _ hp hq hs := hs.of_core hp (by rw [hq])
  accept _ o d k b _ hr hs := hs.accept hr o d k b
  withdraw _ _ hg hs := hs.keepOriginated hg

/-- Every elementary effect keeps the bounds. -/
theorem queuesBounded_kept : Kept State.QueuesBounded where
  toKeptWithin := queuesBounded_portInvariant.keptWithin (fun _ f _ hr hs => hs.placeForward hr f) fun r s hr hs =>
    ⟨hs.portA, hs.portB, by simpa using hr⟩
  pending _ _ hs := queuesBounded_portInvariant.of_link hs
  powerOn _ _ _ _ := ⟨PortState.bounded_powerOn, PortState.bounded_powerOn, Nat.zero_le _⟩
  rx _ _ _ hs := hs.onPort fun hx => hx.of_queues
  good _ _ hs := hs.onPort fun hx => hx.of_queues
  badForm _ _ hs := hs.onPort fun hx => hx.of_queues
  badCheck _ _ hs := hs.onPort fun hx => hx.of_queues
  completed _ _ _ hs := hs.onPort fun hx => PortState.bounded_choose hx.forward hx.originated hx.run
  clear _ hs :=
    let cleared {x : PortState} : x.Bounded → x.clearCounters.Bounded := fun hx => hx.of_queues
    ⟨cleared hs.portA, cleared hs.portB, hs.requests⟩
  loseSource _ _ _ hs := queuesBounded_portInvariant.of_link hs
  regular _ _ hs := queuesBounded_portInvariant.takeEpoch _ _ (queuesBounded_portInvariant.of_link hs)
  holdExpiry _ _ _ hs := queuesBounded_portInvariant.of_link hs
  lockOut _ _ _ hs := queuesBounded_portInvariant.of_link hs
  missDeadline n s _ hs := queuesBounded_portInvariant.missDeadline n s hs
  controlLoss _ _ hs := queuesBounded_portInvariant.of_link hs
  line _ _ _ _ hs := queuesBounded_portInvariant.of_link hs
  pop s hs := hs.of_core (fun _ => rfl) (by simp)
  part _ _ _ _ hs := queuesBounded_portInvariant.of_link hs
  validation _ _ hs := queuesBounded_portInvariant.of_link hs
  enterRun _ _ _ hs := queuesBounded_portInvariant.of_link hs
  leave p s _ _ hs := queuesBounded_portInvariant.leaveRun p s hs
  write _ _ _ _ _ _ hs := queuesBounded_portInvariant.of_link hs
  load c s _ hs := hs.of_core (fun q => by cases q <;> rfl) (by simp [State.loadCount, State.rebase])
  readEvents _ hs := queuesBounded_portInvariant.of_link hs
  cut n s hs := queuesBounded_portInvariant.cutNode n s hs
  restore n s hs := queuesBounded_portInvariant.of_link hs (by simp) (by simp)
  markRead n s hs := queuesBounded_portInvariant.of_link hs (by simp) (by simp)
  release _ _ hs := queuesBounded_portInvariant.of_link hs
  softReset _ _ _ _ _ ha hb hia hib :=
    ⟨PortState.bounded_softReset ha hia, PortState.bounded_softReset hb hib, Nat.zero_le _⟩

/-- Settles O59: the bounds are kept by every elementary effect, and so by every step. -/
theorem queuesStayBounded : Obligations.QueuesStayBounded :=
  queuesBounded_kept.step

end Sys2Proof.Machine

/-! What becomes of a received frame: refused by a reception check and counted (R9), a request to the own address (R12, R166), or
classified; and the reception counters, which nothing else moves. -/

namespace Sys2Proof.Machine

/-! ## The end of a reception -/

/-- The reception at a port has ended with a frame that passed the reception checks. -/
def State.endedGood (p : Port) (s : State) : State := s.onPort p fun x => { x with rx := none, good := x.good + 1 }

/-- The reception at a port has ended with a frame of bad form. -/
def State.endedBadForm (p : Port) (s : State) : State := s.onPort p fun x => { x with rx := none, badForm := x.badForm + 1 }

/-- The reception at a port has ended with a frame whose check is wrong. -/
def State.endedBadCheck (p : Port) (s : State) : State := s.onPort p fun x => { x with rx := none, badCheck := x.badCheck + 1 }

theorem State.endReception_countGood (p : Port) (s : State) : (s.endReception p).countGood p = s.endedGood p :=
  State.onPort_onPort _ _ _ _

theorem State.endReception_countBadForm (p : Port) (s : State) : (s.endReception p).countBadForm p = s.endedBadForm p :=
  State.onPort_onPort _ _ _ _

theorem State.endReception_countBadCheck (p : Port) (s : State) : (s.endReception p).countBadCheck p = s.endedBadCheck p :=
  State.onPort_onPort _ _ _ _

theorem State.endReception_own (p : Port) (s : State) : (s.endReception p).link.own = s.link.own := State.onPort_own _ _ _


/-! ## Reception checks (Table 1-15) -/

theorem receptionFault_of_length {own : Byte} {f : Frame} (h : f.length < 7 ∨ 67 < f.length) :
    receptionFault own f = some .badForm := by
  simp [receptionFault, h]

section
variable {own : Byte} {f : Frame} (hmin : 7 ≤ f.length) (hmax : f.length ≤ 67)
include hmin hmax

theorem receptionFault_of_check (h : (crc (f.take (f.length - 2))).toNat ≠ frameCheck f) :
    receptionFault own f = some .badCheck := by
  simp [receptionFault, h, Nat.not_lt.2 hmin, Nat.not_lt.2 hmax]

/-- Past the checks of length and check field, a wrong length field or address is bad form. -/
theorem receptionFault_of_header (hc : (crc (f.take (f.length - 2))).toNat = frameCheck f)
    (h : frameLength f ≠ f.length - 7 ∨ frameDest f = 0 ∨ frameSource f = 0 ∨ frameSource f = own) :
    receptionFault own f = some .badForm := by
  simp only [receptionFault, hc, Nat.not_lt.2 hmin, Nat.not_lt.2 hmax]
  grind

theorem receptionFault_none (hc : (crc (f.take (f.length - 2))).toNat = frameCheck f) (hl : frameLength f = f.length - 7)
    (hd : frameDest f ≠ 0) (hz : frameSource f ≠ 0) (ho : frameSource f ≠ own) : receptionFault own f = none := by
  simp only [receptionFault, hc, hl, hd, hz, ho, Nat.not_lt.2 hmin, Nat.not_lt.2 hmax, or_self, ne_eq, not_true_eq_false, if_false]

end

/-! ## Management requests -/

theorem isOwnRequest_iff {own : Byte} {f : Frame} : isOwnRequest own f = true ↔ f.getD 0 0 = own ∧ f.getD 2 0 = 0x51 := by
  simp only [isOwnRequest, Bool.and_eq_true, beq_iff_eq]
  rfl

theorem State.takeRequest_room {s : State} (r : Request) (h : s.agent.queue.length < 4) :
    s.takeRequest r = { s with agent := { s.agent with queue := s.agent.queue ++ [r] } } := if_pos h

theorem State.takeRequest_full {s : State} (r : Request) (h : 4 ≤ s.agent.queue.length) :
    s.takeRequest r = s.respond r .busy [] := if_neg (Nat.not_lt.2 h)

/-! ## FRAME_ARRIVAL, one equation for each way it goes -/

section
variable {p : Port} {f : Frame} {s : State} {stamp : Count} (hrx : (s.port p).rx = some stamp)
include hrx

theorem exec_frameArrival : exec (.frameArrival p f) s = .next (State.receive p stamp f (s.endReception p)) := by
  simp [exec, execFrameArrival, hrx]

theorem exec_frameArrival_badForm (h : receptionFault s.link.own f = some .badForm) :
    exec (.frameArrival p f) s = .next (s.endedBadForm p) := by
  rw [exec_frameArrival hrx, State.receive, State.endReception_own, h, ← State.endReception_countBadForm]

theorem exec_frameArrival_badCheck (h : receptionFault s.link.own f = some .badCheck) :
    exec (.frameArrival p f) s = .next (s.endedBadCheck p) := by
  rw [exec_frameArrival hrx, State.receive, State.endReception_own, h, ← State.endReception_countBadCheck]

variable (hok : receptionFault s.link.own f = none)
include hok

theorem exec_frameArrival_classify :
    exec (.frameArrival p f) s = .next (State.classify p stamp f (s.endReception p)) := by
  rw [exec_frameArrival hrx, State.receive, State.endReception_own, hok]

section
variable (hd : f.getD 0 0 = s.link.own) (hk : f.getD 2 0 = 0x51)
include hd hk

/-- A request without kind and id is bad form (R12). -/
theorem exec_frameArrival_shortRequest (hl : (framePayload f).length < 2) :
    exec (.frameArrival p f) s = .next (s.endedBadForm p) := by
  have hr := isOwnRequest_iff.2 ⟨hd, hk⟩
  simp only [exec_frameArrival_classify hrx hok, State.classify, State.endReception_own, hr, hl, if_true, State.endReception_countBadForm]

theorem exec_frameArrival_request (hl : 2 ≤ (framePayload f).length) :
    exec (.frameArrival p f) s = .next (State.takeRequest (requestOf p stamp f) (s.endedGood p)) := by
  have hr := isOwnRequest_iff.2 ⟨hd, hk⟩
  simp only [exec_frameArrival_classify hrx hok, State.classify, State.endReception_own, hr, Nat.not_lt.2 hl, if_true, if_false,
    State.endReception_countGood]

end

/-- A frame to the own address that is no request goes the way of R13. -/
theorem exec_frameArrival_own (hd : f.getD 0 0 = s.link.own) (hk : f.getD 2 0 ≠ 0x51) :
    exec (.frameArrival p f) s = .next (State.takeOwn p stamp f (s.endedGood p)) := by
  have hr : ¬ isOwnRequest s.link.own f = true := fun h => hk (isOwnRequest_iff.1 h).2
  have hd' : frameDest f = s.link.own := hd
  simp only [exec_frameArrival_classify hrx hok, State.classify, State.endReception_own, hr, hd', if_true,
    State.endReception_countGood]
  rfl

/-- A frame to another address goes the way of R14. -/
theorem exec_frameArrival_other (hd : f.getD 0 0 ≠ s.link.own) :
    exec (.frameArrival p f) s = .next (State.takeOther p stamp f (s.endedGood p)) := by
  have hd' : frameDest f ≠ s.link.own := hd
  have hr : ¬ isOwnRequest s.link.own f = true := fun h => hd (isOwnRequest_iff.1 h).1
  simp only [exec_frameArrival_classify hrx hok, State.classify, State.endReception_own, hr, hd', if_false,
    State.endReception_countGood]
  rfl

end

/-! ## Reception counters -/

/-- The three reception counters of a port (R9). -/
def PortState.receptions (x : PortState) : Counter × Counter × Counter := (x.good, x.badCheck, x.badForm)

theorem PortState.settle_receptions (x : PortState) : x.settle.receptions = x.receptions := by
  unfold PortState.settle PortState.choose PortState.takeForward PortState.takeOriginated
  repeat' split
  all_goals rfl

/-- A change of one port that leaves its reception counters alone leaves every port's alone. -/
theorem State.onPort_receptions {p : Port} {f : PortState → PortState} (hf : ∀ x, (f x).receptions = x.receptions) (s : State)
    (q : Port) : ((s.onPort p f).port q).receptions = (s.port q).receptions := by
  rw [State.onPort_port]
  split
  · subst ‹p = q›
    exact hf _
  · rfl

theorem receptions_portInvariant (c : Port → Counter × Counter × Counter) :
    PortInvariant fun s => ∀ q, (s.port q).receptions = c q where
  congr s t hp _ hs q := Eq.trans (congrArg PortState.receptions (hp q) :) (hs q)
  accept p _ _ _ _ s _ hs q := by
    rw [State.accept_port, State.onPort_receptions]
    · exact hs q
    · exact fun _ => PortState.settle_receptions _
  withdraw _ s _ hs q := by
    rw [State.keepOriginated, State.onPort_receptions]
    · exact hs q
    · exact fun _ => rfl

/-- What the handling of a counted frame brings about leaves the reception counters alone. -/
theorem receptions_keptWithin (c : Port → Counter × Counter × Counter) :
    KeptWithin fun s => ∀ q, (s.port q).receptions = c q :=
  (receptions_portInvariant c).keptWithin
    (fun _ _ s _ hs q => by
      rw [State.placeForward, State.onPort_receptions]
      · exact hs q
      · exact fun _ => PortState.settle_receptions _)
    fun _ _ _ hs => hs

/-- A frame's arrival moves the reception counters as the end of its reception does, and not further. -/
theorem exec_frameArrival_receptions {p : Port} {f : Frame} {s : State} {stamp : Count} (hrx : (s.port p).rx = some stamp) :
    ∃ t u, exec (.frameArrival p f) s = .next t ∧ (∀ q, (t.port q).receptions = (u.port q).receptions) ∧
      (u = s.endedGood p ∨ u = s.endedBadCheck p ∨ u = s.endedBadForm p) := by
  have within (u : State) := receptions_keptWithin fun q => (u.port q).receptions
  cases hr : receptionFault s.link.own f with
  | some r =>
    cases r with
    | badForm => exact ⟨_, _, exec_frameArrival_badForm hrx hr, fun _ => rfl, .inr (.inr rfl)⟩
    | badCheck => exact ⟨_, _, exec_frameArrival_badCheck hrx hr, fun _ => rfl, .inr (.inl rfl)⟩
  | none =>
    by_cases hd : f.getD 0 0 = s.link.own
    · by_cases hk : f.getD 2 0 = 0x51
      · by_cases hl : (framePayload f).length < 2
        · exact ⟨_, _, exec_frameArrival_shortRequest hrx hr hd hk hl, fun _ => rfl, .inr (.inr rfl)⟩
        · exact ⟨_, _, exec_frameArrival_request hrx hr hd hk (Nat.not_lt.1 hl), (within _).takeRequest _ _ fun _ => rfl, .inl rfl⟩
      · exact ⟨_, _, exec_frameArrival_own hrx hr hd hk, (within _).takeOwn _ _ _ _ fun _ => rfl, .inl rfl⟩
    · exact ⟨_, _, exec_frameArrival_other hrx hr hd, (within _).takeOther _ _ _ _ fun _ => rfl, .inl rfl⟩

/-! ## The statements -/

/-- Settles O9: the frame is counted at the end of its reception, and its handling keeps the counters. -/
theorem everyArrivalIsCountedOnce : Obligations.EveryArrivalIsCountedOnce := by
  intro p f s stamp hrx
  obtain ⟨t, u, he, ht, hu⟩ := exec_frameArrival_receptions (f := f) hrx
  refine ⟨t, he, ?_⟩
  have hp := ht p
  have hq := ht (otherPort p)
  rcases hu with rfl | rfl | rfl <;>
    simp_all [PortState.receptions, State.endedGood, State.endedBadCheck, State.endedBadForm]

/-- Settles O8: the stamp of R8, and the first check of Table 1-15 that fails. -/
theorem framesAreStampedAndChecked : Obligations.FramesAreStampedAndChecked := by
  refine ⟨fun _ _ => rfl, fun p f s stamp hrx => ⟨fun h => ?_, fun ⟨hmin, hmax, hc⟩ => ?_, fun ⟨hmin, hmax, hc, h⟩ => ?_⟩⟩
  · exact exec_frameArrival_badForm hrx (receptionFault_of_length h)
  · exact exec_frameArrival_badCheck hrx (receptionFault_of_check hmin hmax hc)
  · exact exec_frameArrival_badForm hrx (receptionFault_of_header hmin hmax hc h)

/-- Settles O11, along the three ways of a request to the own address. -/
theorem ownRequestJoinsTheQueue : Obligations.OwnRequestJoinsTheQueue := by
  intro p f s stamp hrx hok hd hk
  refine ⟨fun hl => exec_frameArrival_shortRequest hrx hok hd hk hl, fun hl hq => ?_, fun hl hq => ?_⟩
  · rw [exec_frameArrival_request hrx hok hd hk hl, State.takeRequest_room (s := s.endedGood p) _ hq]
    rfl
  · rw [exec_frameArrival_request hrx hok hd hk hl, State.takeRequest_full (s := s.endedGood p) _ hq]
    rfl

end Sys2Proof.Machine

/-! What a frame placed in a queue comes to, and what the arbiter takes when a transmission is complete (R7, R17 to R20). -/

namespace Sys2Proof.Machine

/-! ## Originated frames -/

/-- The port offers no choice to its arbiter: its line is IDLE and no frame waits. -/
structure PortState.Empty (x : PortState) : Prop where
  forward : x.forward = []
  originated : x.originated = []
  line : x.line = .idle

theorem PortState.Empty.settle_originated {x : PortState} (h : x.Empty) (o : OrigFrame) :
    PortState.settle { x with originated := x.originated ++ [o] } = { x with line := .sending o.bytes, run := 0 } := by
  obtain ⟨rx, forward, originated, line, run, good, badCheck, badForm, overflow, transmitted⟩ := x
  obtain ⟨rfl, rfl, rfl⟩ := h
  rfl

theorem PortState.Empty.settle_forward {x : PortState} (h : x.Empty) (f : Frame) :
    PortState.settle { x with forward := x.forward ++ [f] } = { x with line := .sending f, run := 0 } := by
  obtain ⟨rx, forward, originated, line, run, good, badCheck, badForm, overflow, transmitted⟩ := x
  obtain ⟨rfl, rfl, rfl⟩ := h
  rfl

/-- After a placement on a SENDING line the arbiter has nothing to do (R19). -/
theorem State.onPort_settle_sending {s : State} {p : Port} {f : PortState → PortState} (h : (f (s.port p)).line ≠ .idle) :
    (s.onPort p fun x => PortState.settle (f x)) = s.onPort p f :=
  State.onPort_congr (PortState.settle_sending h)

/-- A SENDING line leaves an accepted frame at the tail of its queue (R18). -/
theorem State.accept_sending {s : State} {p : Port} (h : (s.port p).line ≠ .idle) (o : Origin) (d k : Byte) (b : List Byte) :
    s.accept p o d k b =
      { s with link :=
        { (s.onPort p fun x =>
            { x with originated := x.originated ++ [⟨o, buildFrame d s.link.own k s.link.txSeq b⟩] }).link with
          txSeq := s.link.txSeq + 1 } } := by
  rw [State.accept, State.onPort_settle_sending]
  · rfl
  · exact h

/-- An IDLE line takes an accepted frame at once (R19). -/
theorem State.accept_empty {s : State} {p : Port} (h : (s.port p).Empty) (o : Origin) (d k : Byte) (b : List Byte) :
    s.accept p o d k b =
      { s with link :=
        { (s.onPort p fun x => { x with line := .sending (buildFrame d s.link.own k s.link.txSeq b), run := 0 }).link with
          txSeq := s.link.txSeq + 1 } } := by
  rw [State.accept, State.onPort_congr
    (g := fun x => { x with line := .sending (buildFrame d s.link.own k s.link.txSeq b), run := 0 }) (h.settle_originated _)]
  rfl

theorem State.respond_room {s : State} {r : Request} (h : (s.port r.port).originated.length < 12) (st : Status) (d : List Byte) :
    s.respond r st d = s.accept r.port .response r.source kindResponse (responsePayload r st d) :=
  if_pos (by simpa [State.hasRoom] using h)

theorem State.respond_full {s : State} {r : Request} (h : 12 ≤ (s.port r.port).originated.length) (st : Status) (d : List Byte) :
    s.respond r st d = s.countResponseDropped :=
  if_neg (by simpa [State.hasRoom] using h)

/-- The payload of a response, its status in the codes of Table 1-13. -/
theorem responsePayload_eq (r : Request) (st : Status) (d : List Byte) :
    responsePayload r st d = r.kind :: r.id :: (match st with
      | .ok => 0 | .busy => 1 | .badRequest => 2 | .badIndex => 3 | .badValue => 4 | .locked => 5 | .badConfig => 6
      | .notClosed => 7) :: d := by
  cases st <;> rfl

/-- Settles O13, by what the acceptance of the response makes of its port. -/
theorem responseIsQueuedOrDropped : Obligations.ResponseIsQueuedOrDropped := by
  intro s r st data
  refine ⟨fun hroom hl => ?_, fun ho hf hl => ?_, fun hfull => ?_⟩
  · rw [State.replied, State.respond_room hroom, State.accept_sending hl, responsePayload_eq]
    rfl
  · rw [State.replied, State.respond_room (by simp [ho]), State.accept_empty ⟨hf, ho, hl⟩, responsePayload_eq]
    rfl
  · rw [State.replied, State.respond_full hfull]
    rfl

/-! ## Transmission complete -/

theorem exec_transmissionComplete {p : Port} {s : State} {f : Frame} (h : (s.port p).line = .sending f) :
    exec (.transmissionComplete p) s = .next (s.onPort p PortState.completed) := by
  simp [exec, execTransmissionComplete, h]

/-- A waiting forward frame goes onto the line when no originated frame waits or four have gone before it (R19). -/
theorem PortState.completed_forward {x : PortState} {f : Frame} {fs : List Frame} (hf : x.forward = f :: fs)
    (h : x.originated = [] ∨ x.run = 4) : x.completed.line = .sending f ∧ x.completed.forward = fs := by
  unfold PortState.completed PortState.choose
  rcases h with ho | hr
  · simp [hf, ho, PortState.takeForward]
  · cases ho : x.originated <;> simp [hf, hr, PortState.takeForward]

/-- Otherwise an originated frame goes before it, and is counted (R19). -/
theorem PortState.completed_originated {x : PortState} {f : Frame} {fs : List Frame} {o : OrigFrame} {os : List OrigFrame}
    (hf : x.forward = f :: fs) (ho : x.originated = o :: os) (hr : x.run ≠ 4) :
    x.completed.line = .sending o.bytes ∧ x.completed.forward = f :: fs ∧ x.completed.run = x.run + 1 := by
  simp [PortState.completed, PortState.choose, hf, ho, hr, PortState.takeOriginated]

theorem run_succ_of_next {M : Host.Core} {s t : M.State} (h : M.step s = .next t) (k : Nat) : M.run (k + 1) s = M.run k t := by
  simp only [Host.Core.run, h]

/-- A run over completions at one port, from its first. -/
theorem run_completion {p : Port} {s : State} {g : Frame} (h : (s.port p).line = .sending g) (k : Nat) :
    Sys2Proof.core.run (k + 1) (s.withPending (List.replicate (k + 1) (.transmissionComplete p))) =
      Sys2Proof.core.run k ((s.onPort p PortState.completed).withPending (List.replicate k (.transmissionComplete p))) := by
  have hstep : Sys2Proof.core.step (s.withPending (List.replicate (k + 1) (.transmissionComplete p))) =
      .next ((s.onPort p PortState.completed).withPending (List.replicate k (.transmissionComplete p))) :=
    exec_transmissionComplete (s := s.withPending (List.replicate k (.transmissionComplete p))) h
  exact run_succ_of_next hstep k

/-- Induction on the originated frames that the run count still lets go before the forward frame. -/
theorem run_completions_forward {p : Port} {f : Frame} {fs : List Frame} (n : Nat) {s : State} {g : Frame}
    (hl : (s.port p).line = .sending g) (hf : (s.port p).forward = f :: fs) (hr : (s.port p).run + n = 4) :
    ∃ (k : Nat) (t : State), 1 ≤ k ∧ k ≤ n + 1 ∧
      Sys2Proof.core.run k (s.withPending (List.replicate k (.transmissionComplete p))) = .next t ∧
      (t.port p).line = .sending f ∧ (t.port p).forward = fs := by
  by_cases hnow : (s.port p).originated = [] ∨ (s.port p).run = 4
  · obtain ⟨hline, hforward⟩ := PortState.completed_forward hf hnow
    refine ⟨1, (s.onPort p PortState.completed).withPending [], Nat.le_refl _, by omega, run_completion hl 0, ?_, ?_⟩
    · exact (congrArg PortState.line (State.onPort_port_same p _ s)).trans hline
    · exact (congrArg PortState.forward (State.onPort_port_same p _ s)).trans hforward
  · obtain ⟨hne, h4⟩ := not_or.1 hnow
    obtain ⟨o, os, ho⟩ := List.exists_cons_of_ne_nil hne
    obtain ⟨hline, hforward, hrun⟩ := PortState.completed_originated hf ho h4
    cases n with
    | zero => exact absurd hr h4
    | succ n =>
      obtain ⟨k, t, -, hk, ht, hend⟩ := run_completions_forward n (s := s.onPort p PortState.completed) (g := o.bytes) (f := f)
        (fs := fs) (p := p) (by simpa using hline) (by simpa using hforward) (by rw [State.onPort_port_same, hrun]; omega)
      exact ⟨k + 1, t, by omega, by omega, (run_completion hl k).trans ht, hend⟩

/-- Settles O12: the arbiter's four choices, and the bound by the run count. -/
theorem transmissionCompleteTakesTheNextFrame : Obligations.TransmissionCompleteTakesTheNextFrame := by
  refine ⟨fun p s f hl => ?_, fun p s f g fs hl hf hr => ?_⟩
  · rw [exec_transmissionComplete hl]
    refine congrArg Host.Outcome.next (State.onPort_congr ?_)
    unfold PortState.completed PortState.choose PortState.takeForward PortState.takeOriginated
    cases hfs : (s.port p).forward <;> cases hos : (s.port p).originated <;> rfl
  · obtain ⟨k, t, h1, hk, ht⟩ := run_completions_forward (4 - (s.port p).run) hl hf (by omega)
    exact ⟨k, t, h1, by omega, ht⟩

end Sys2Proof.Machine

/-! Frames the part builds, read back (R3, R4, R6, R7, R9). -/

namespace Sys2Proof.Machine

/-! ## Numbers as bytes (R6) -/

/-- Reading on from a number already read, the bytes of a number give it modulo what they can hold. -/
theorem foldl_toBytes (n v acc : Nat) :
    (toBytes n v).foldl (fun acc b => acc * 256 + b.toNat) acc = acc * 256 ^ n + v % 256 ^ n := by
  induction n generalizing acc with
  | zero => simp [toBytes, Nat.mod_one]
  | succ n ih =>
    rw [toBytes, List.foldl_cons, ih, pow_succ 256 n, Nat.mod_mul, BitVec.toNat_ofNat]
    ring

theorem ofBytes_toBytes (n v : Nat) : ofBytes (toBytes n v) = v % 256 ^ n := by
  simp [ofBytes, foldl_toBytes]

/-! ## Built frames -/

section
variable (dest src kind seq : Byte) (payload : List Byte)

theorem frameBody_length : (frameBody dest src kind seq payload).length = payload.length + 5 := rfl

theorem buildFrame_length : (buildFrame dest src kind seq payload).length = payload.length + 7 := by
  simp [buildFrame, frameBody_length]

/-- Without its last two bytes a built frame is header and payload. -/
theorem buildFrame_take : (buildFrame dest src kind seq payload).take (payload.length + 5) = frameBody dest src kind seq payload :=
  List.take_left' (frameBody_length dest src kind seq payload)

theorem frameCheck_buildFrame :
    frameCheck (buildFrame dest src kind seq payload) = (crc (frameBody dest src kind seq payload)).toNat := by
  have hdrop : (buildFrame dest src kind seq payload).drop (payload.length + 5) =
      toBytes 2 (crc (frameBody dest src kind seq payload)).toNat :=
    List.drop_left' (frameBody_length dest src kind seq payload)
  rw [frameCheck, buildFrame_length, Nat.add_sub_assoc (by decide), hdrop, ofBytes_toBytes]
  exact Nat.mod_eq_of_lt (BitVec.isLt _)

theorem framePayload_buildFrame : framePayload (buildFrame dest src kind seq payload) = payload := by
  rw [framePayload, buildFrame_length, Nat.add_sub_cancel]
  exact List.take_left' rfl

/-- The length field of a frame of admitted length is the payload's length. -/
theorem frameLength_buildFrame (h : payload.length ≤ 60) : frameLength (buildFrame dest src kind seq payload) = payload.length := by
  show (code payload.length).toNat = _
  rw [code, BitVec.toNat_ofNat]
  omega

end

/-- Settles O14: length, check, length field and addresses pass, and each field stands at its place. -/
theorem builtFramesAreReadBack : Obligations.BuiltFramesAreReadBack := by
  intro dest src kind seq own payload hlen hdest hsrc hown
  have hl := buildFrame_length dest src kind seq payload
  have hfield := frameLength_buildFrame dest src kind seq payload hlen
  refine ⟨receptionFault_none ?_ ?_ ?_ ?_ hdest hsrc hown, hl, rfl, rfl, rfl, rfl, hfield, framePayload_buildFrame ..⟩
  · omega
  · omega
  · rw [hl, Nat.add_sub_assoc (by decide), buildFrame_take, frameCheck_buildFrame]
  · rw [hfield, hl, Nat.add_sub_cancel]

end Sys2Proof.Machine

/-! Classification, forwarding and handing to blocks (R11, R13 to R17, Tables 1-17 and 1-18). -/

namespace Sys2Proof.Machine

/-! ## Forwarding (R17) -/

section
variable {s : State} {p : Port} {f : Frame}

/-- A frame forwarded to a SENDING line waits at the tail of the forward queue. -/
theorem State.forwardFrom_sending (hroom : (s.port (otherPort p)).forward.length < 16) (hl : (s.port (otherPort p)).line ≠ .idle) :
    s.forwardFrom p f = s.onPort (otherPort p) fun x => { x with forward := x.forward ++ [f] } := by
  rw [State.forwardFrom, if_pos (by simpa [State.forwardRoom] using hroom), State.placeForward, State.onPort_settle_sending]
  exact hl

/-- An IDLE line takes a forwarded frame at once. -/
theorem State.forwardFrom_empty (h : (s.port (otherPort p)).Empty) :
    s.forwardFrom p f = s.onPort (otherPort p) fun x => { x with line := .sending f, run := 0 } := by
  rw [State.forwardFrom, if_pos (by simp [State.forwardRoom, h.forward]), State.placeForward]
  exact State.onPort_congr (h.settle_forward f)

/-- A frame that finds the forward queue full is counted and raised as LINK_OVERFLOW. -/
theorem State.forwardFrom_full (h : 16 ≤ (s.port (otherPort p)).forward.length) :
    s.forwardFrom p f =
      (s.onPort (otherPort p) fun x => { x with overflow := x.overflow + 1 }).raise (.linkOverflow (otherPort p)) :=
  if_neg (by simpa [State.forwardRoom] using h)

end

/-! ## The matching entry (R11, R15) -/

theorem PortSel.covers_iff (sel : PortSel) (p : Port) :
    sel.covers p = true ↔ sel = .either ∨ (sel = .a ∧ p = .a) ∨ (sel = .b ∧ p = .b) := by
  cases sel <;> cases p <;> decide

theorem ClassEntry.matchesFrame_eq (e : ClassEntry) (p : Port) (f : Frame) :
    e.matchesFrame p f = decide (e.valid = true ∧ e.source = f.getD 1 0 ∧ e.kind = f.getD 2 0 ∧
      (e.port = .either ∨ (e.port = .a ∧ p = .a) ∨ (e.port = .b ∧ p = .b))) := by
  rw [Bool.eq_iff_iff, decide_eq_true_iff, ← PortSel.covers_iff]
  simp only [ClassEntry.matchesFrame, Bool.and_eq_true, beq_iff_eq, and_assoc]
  rfl

theorem State.matchingEntry_pass {s : State} (h : s.agent.part = .pass) (p : Port) (f : Frame) : s.matchingEntry p f = none :=
  if_pos h

theorem State.matchingEntry_find {s : State} (h : s.agent.part ≠ .pass) (p : Port) (f : Frame) :
    s.matchingEntry p f = s.tables.classify.toList.find? fun e => decide (e.valid = true ∧ e.source = f.getD 1 0 ∧
      e.kind = f.getD 2 0 ∧ (e.port = .either ∨ (e.port = .a ∧ p = .a) ∨ (e.port = .b ∧ p = .b))) := by
  rw [State.matchingEntry, if_neg h]
  simp only [ClassEntry.matchesFrame_eq]

theorem State.endedGood_matchingEntry (s : State) (p : Port) (f : Frame) :
    (s.endedGood p).matchingEntry p f = s.matchingEntry p f := rfl

/-! ## Effective action and role (Table 1-18) -/

/-- An entry of a demand or report role rests outside RUN. -/
def ClassEntry.Idle (e : ClassEntry) (st : PartState) : Prop :=
  st ≠ .run ∧ (match e.role with | .demand _ | .report _ => True | .noRole | .axleSample _ _ | .timeMark => False)

theorem ClassEntry.effective_idle {e : ClassEntry} {st : PartState} (h : e.Idle st) : e.effective st = (.forward, .noRole) := by
  obtain ⟨hst, hrole⟩ := h
  cases hr : e.role <;> simp only [hr] at hrole
  all_goals cases st <;> simp_all [ClassEntry.effective]

theorem ClassEntry.effective_awake {e : ClassEntry} {st : PartState} (h : ¬ e.Idle st) : e.effective st = (e.action, e.role) := by
  unfold ClassEntry.effective
  split <;> simp_all [ClassEntry.Idle]

/-! ## Frames to the own address (R13) and to another (R14) -/

section
variable {s : State} {p : Port} {c : Count} {f : Frame}

theorem State.takeOwn_unmatched (h : s.matchingEntry p f = none) : s.takeOwn p c f = s.countUnclaimed := by
  simp [State.takeOwn, h]

theorem State.takeOther_unmatched (h : s.matchingEntry p f = none) : s.takeOther p c f = s.forwardFrom p f := by
  simp [State.takeOther, h]

variable {e : ClassEntry} (hm : s.matchingEntry p f = some e)
include hm

theorem State.takeOwn_drop {r : Role} (h : e.effective s.agent.part = (.drop, r)) : s.takeOwn p c f = s := by
  simp [State.takeOwn, hm, h]

theorem State.takeOwn_noRole {a : Action} (h : e.effective s.agent.part = (a, .noRole)) (ha : a ≠ .drop) :
    s.takeOwn p c f = s.countUnclaimed := by
  cases a <;> simp_all [State.takeOwn]

theorem State.takeOwn_role {a : Action} {r : Role} (h : e.effective s.agent.part = (a, r)) (ha : a ≠ .drop) (hr : r ≠ .noRole) :
    s.takeOwn p c f = handToRole r c f s := by
  cases a <;> cases r <;> simp_all [State.takeOwn]

theorem State.takeOther_drop {r : Role} (h : e.effective s.agent.part = (.drop, r)) : s.takeOther p c f = s := by
  simp [State.takeOther, hm, h]

theorem State.takeOther_forward {r : Role} (h : e.effective s.agent.part = (.forward, r)) :
    s.takeOther p c f = s.forwardFrom p f := by
  simp [State.takeOther, hm, h]

theorem State.takeOther_observe {r : Role} (h : e.effective s.agent.part = (.observe, r)) :
    s.takeOther p c f = handToRole r c f (s.forwardFrom p f) := by
  simp [State.takeOther, hm, h]

/-- A broadcast that is consumed goes on too. -/
theorem State.takeOther_consume_broadcast {r : Role} (h : e.effective s.agent.part = (.consume, r)) (hb : f.getD 0 0 = 0xFF) :
    s.takeOther p c f = handToRole r c f (s.forwardFrom p f) := by
  simp only [State.takeOther, hm, h]
  exact congrArg _ (if_pos hb)

theorem State.takeOther_consume {r : Role} (h : e.effective s.agent.part = (.consume, r)) (hb : f.getD 0 0 ≠ 0xFF) :
    s.takeOther p c f = handToRole r c f s := by
  simp only [State.takeOther, hm, h]
  exact congrArg _ (if_neg hb)

end

/-- Settles O10: by the destination, the matching entry and its effective action and role. -/
theorem framesAreForwardedAndHandedOn : Obligations.FramesAreForwardedAndHandedOn := by
  intro p f s stamp hrx hok hreq q taken unclaimed found idles
  have unmatched (h : s.agent.part = .pass ∨ found = none) : (s.endedGood p).matchingEntry p f = none := by
    rw [State.endedGood_matchingEntry]
    by_cases hp : s.agent.part = .pass
    · exact State.matchingEntry_pass hp p f
    · exact (State.matchingEntry_find hp p f).trans (h.resolve_left hp)
  have matched {e : ClassEntry} (hp : s.agent.part ≠ .pass) (h : found = some e) : (s.endedGood p).matchingEntry p f = some e :=
    (State.matchingEntry_find hp p f).trans h
  have idle {e : ClassEntry} (h : idles e) : e.effective (s.endedGood p).agent.part = (.forward, .noRole) :=
    ClassEntry.effective_idle (st := s.agent.part) h
  have awake {e : ClassEntry} {a : Action} (h : ¬ idles e) (ha : e.action = a) :
      e.effective (s.endedGood p).agent.part = (a, e.role) :=
    ha ▸ ClassEntry.effective_awake (st := s.agent.part) h
  refine ⟨fun hd => ?_, fun hd => ?_, fun u => ?_⟩
  · rw [exec_frameArrival_own hrx hok hd fun hk => hreq ⟨hd, hk⟩]
    refine ⟨fun h => ?_, fun e hp he => ⟨fun h => ?_, fun hi ha => ?_, fun hi ha hr => ?_⟩⟩
    · exact congrArg Host.Outcome.next (State.takeOwn_unmatched (unmatched h))
    · by_cases hi : idles e
      · exact congrArg Host.Outcome.next (State.takeOwn_noRole (matched hp he) (idle hi) (by decide))
      · obtain ⟨ha, hr⟩ := h.resolve_left hi
        exact congrArg Host.Outcome.next (State.takeOwn_noRole (matched hp he) (hr ▸ awake hi rfl) ha)
    · exact congrArg Host.Outcome.next (State.takeOwn_drop (matched hp he) (awake hi ha))
    · exact congrArg Host.Outcome.next (State.takeOwn_role (matched hp he) (awake hi rfl) ha hr)
  · rw [exec_frameArrival_other hrx hok hd]
    refine ⟨fun h => ?_, fun e hp he => ⟨fun h => ?_, fun hi ha => ?_, fun hi h => ?_, fun hi ha hb => ?_⟩⟩
    · exact congrArg Host.Outcome.next (State.takeOther_unmatched (unmatched h))
    · by_cases hi : idles e
      · exact congrArg Host.Outcome.next (State.takeOther_forward (matched hp he) (idle hi))
      · exact congrArg Host.Outcome.next (State.takeOther_forward (matched hp he) (awake hi (h.resolve_left hi)))
    · exact congrArg Host.Outcome.next (State.takeOther_drop (matched hp he) (awake hi ha))
    · rcases h with ha | ⟨ha, hb⟩
      · exact congrArg Host.Outcome.next (State.takeOther_observe (matched hp he) (awake hi ha))
      · exact congrArg Host.Outcome.next (State.takeOther_consume_broadcast (matched hp he) (awake hi ha) hb)
    · exact congrArg Host.Outcome.next (State.takeOther_consume (matched hp he) (awake hi ha) hb)
  · exact ⟨State.forwardFrom_sending, fun hf ho hl => State.forwardFrom_empty ⟨hf, ho, hl⟩, State.forwardFrom_full, rfl,
      fun _ => rfl, fun _ _ => rfl, fun _ => rfl, rfl⟩

end Sys2Proof.Machine

/-! Demand frames (R55 to R57) and what a recomputation of the effective demand leaves of the demand intake (R60, R61, R64). -/

namespace Sys2Proof.Machine

/-! ## The demand intake through an epoch -/

/-- The demand intake holds `d`, or the part has left RUN since and has stopped the loss timers (R64). -/
def State.DemandStands (d : DemandBlock) (s : State) : Prop :=
  s.demand = d ∨ (s.demand = d.leaveRun ∧ s.agent.part ≠ .run)

theorem DemandBlock.leaveRun_source (d : DemandBlock) (k : SourceSlot) : d.leaveRun.sources[k] = { d.sources[k] with timer := none } :=
  vec2_get _ k

namespace State.DemandStands

variable {d : DemandBlock} {s : State}

theorem of_blocks {t : State} (hs : s.DemandStands d) (hd : t.demand = s.demand := by simp) (ha : t.agent = s.agent := by simp) :
    t.DemandStands d := by
  simpa only [State.DemandStands, hd, ha] using hs

theorem in_run (hs : s.DemandStands d) (hr : s.agent.part = .run) : s.demand = d :=
  hs.resolve_right fun h => h.2 hr

theorem eff (hs : s.DemandStands d) : s.demand.eff = d.eff := by
  rcases hs with h | ⟨h, -⟩
  · rw [h]
  · rw [h, DemandBlock.leaveRun]

/-- But for its loss timer a source's record stands. -/
theorem source (hs : s.DemandStands d) (k : SourceSlot) : ∃ timer, s.demand.sources[k] = { d.sources[k] with timer := timer } := by
  rcases hs with h | ⟨h, -⟩
  · exact ⟨d.sources[k].timer, by rw [h]⟩
  · exact ⟨none, by rw [h, DemandBlock.leaveRun_source]⟩

end State.DemandStands

/-- The entry into FAILSAFE that a pass can bring is the one way the demand intake changes within it. -/
theorem demandStands_keptByPasses (d : DemandBlock) : KeptByPasses (State.DemandStands d) where
  drawn _ hs := hs.of_blocks
  raise _ _ hs := hs.of_blocks
  trigger _ _ _ hs := hs.of_blocks
  failsafe c n s hr hs := by
    refine .inr ⟨?_, ?_⟩
    · rw [← hs.in_run hr]
      simp [State.leaveRun]
    · simp [State.leaveRun]
  run _ _ _ hs := hs.of_blocks
  fallback _ _ hs := hs.of_blocks

theorem State.takeEpoch_demandStands (k : EpochKind) (s : State) : (s.takeEpoch k).DemandStands s.demand :=
  (demandStands_keptByPasses s.demand).takeEpoch (fun _ _ _ ht => ht.of_blocks) (fun _ ht => ht.of_blocks) k s (.inl (by simp))

/-- An entry into EMERGENCY leaves the demand intake as it stands, unless its extra epoch takes the part out of RUN. -/
theorem State.enterEmergency_demandStands (s : State) : s.enterEmergency.DemandStands s.demand := by
  refine State.unordered3_keeps _ (fun _ ht => ht.of_blocks) (fun _ ht => ht.of_blocks) (fun _ ht => ht.of_blocks) (fun t ht => ?_)
    s (.inl rfl)
  unfold State.extraEpoch
  split
  · rename_i hr
    rw [← ht.in_run (by simpa [State.running] using hr)]
    exact t.takeEpoch_demandStands .extra
  · exact ht

theorem State.recompute_demandStands (s : State) : s.recompute.DemandStands { s.demand with eff := s.formDemand } := by
  unfold State.recompute
  simp only
  split
  · exact State.enterEmergency_demandStands _
  · exact .inl rfl

/-! ## The effective demand (R61) -/

theorem State.emergencyDemanded_of {s : State} {d : SourceSlot} (h : demandsEmergency s.demand.sources[d] = true) :
    s.emergencyDemanded = true := by
  rw [State.emergencyDemanded, Bool.or_eq_true]
  match d with
  | 0 => exact .inl h
  | 1 => exact .inr h

theorem State.formDemand_emergency {s : State} (h : s.emergencyDemanded = true) :
    s.formDemand.mode = .emergency ∧ s.formDemand.level = 1000 := by
  simp [State.formDemand, h]

/-! ## Modes (Table 1-4) -/

theorem modeOf_above {n : Nat} (h : 4 < n) : modeOf n = none := by
  match n, h with
  | _ + 5, _ => rfl

/-- The codes up to 4 are those of the five modes, in their order. -/
theorem modeOf_eq {n : Nat} (h : n ≤ 4) : modeOf n = [Mode.release, .dynamicOnly, .blended, .airOnly, .emergency][n]? := by
  interval_cases n <;> rfl

theorem modeOf_code {n : Nat} (h : n ≤ 4) : ∃ m, modeOf n = some m ∧ m.code.toNat = n := by
  interval_cases n <;> exact ⟨_, rfl, rfl⟩

/-! ## Demand frames -/

theorem isDuplicate_iff {r : SourceRec} {q : Byte} : isDuplicate r q = true ↔ r.state = .current ∧ r.seq = some q := by
  simp [isDuplicate]

section
variable {d : SourceSlot} {c : Count} {f : Frame} {s : State}

/-- A frame of wrong length or mode is refused and counted (R56). -/
theorem takeDemand_refused (h : (framePayload f).length ≠ 5 ∨ 4 < (byteAt (framePayload f) 0).toNat) :
    takeDemand d c f s = s.countDemandRefused := by
  by_cases hl : (framePayload f).length = 5
  · simp [takeDemand, hl, modeOf_above (h.resolve_left (not_not.2 hl))]
  · simp [takeDemand, hl]

variable (hl : (framePayload f).length = 5)
include hl

theorem takeDemand_duplicate (hm : (byteAt (framePayload f) 0).toNat ≤ 4)
    (h : s.demand.sources[d].state = .current ∧ s.demand.sources[d].seq = some (frameSeq f)) : takeDemand d c f s = s := by
  obtain ⟨m, hm, -⟩ := modeOf_code hm
  simp only [takeDemand, hl, hm, isDuplicate_iff.2 h, ne_eq, not_true_eq_false, if_false, if_true]

/-- Any other frame is accepted, and the effective demand recomputed (R57). -/
theorem takeDemand_accepted {m : Mode} (hm : modeOf (byteAt (framePayload f) 0).toNat = some m)
    (h : ¬ (s.demand.sources[d].state = .current ∧ s.demand.sources[d].seq = some (frameSeq f))) :
    takeDemand d c f s = State.recompute (s.onSource d fun _ =>
      acceptedSource (frameSeq f) (demandPayload m (framePayload f)) c s.now s.tables.blend.demandLoss) := by
  simp only [takeDemand, hl, hm, ne_eq, not_true_eq_false, if_false]
  exact if_neg (mt isDuplicate_iff.1 h)

end

/-- After a recomputation that follows an accepted frame: the source's record, the other source in RUN, and an EMERGENCY demand in
force (R57, R61). -/
theorem recompute_onSource {d : SourceSlot} {r : SourceRec} {t s : State} (ht : t = (s.onSource d fun _ => r).recompute) :
    (∃ timer, t.demand.sources[d] = { r with timer := timer }) ∧
    (t.agent.part = .run → t.demand.sources[d] = r ∧ ∀ k : SourceSlot, k ≠ d → t.demand.sources[k] = s.demand.sources[k]) ∧
    (demandsEmergency r = true → t.demand.eff.mode = .emergency ∧ t.demand.eff.level = 1000) := by
  have hstands := ht ▸ (s.onSource d fun _ => r).recompute_demandStands
  have hwritten : (s.onSource d fun _ => r).demand.sources[d] = r :=
    (State.onSource_get d d _ s).trans (if_pos rfl)
  refine ⟨?_, fun hr => ?_, fun he => ?_⟩
  · have := hstands.source d
    rwa [hwritten] at this
  · rw [hstands.in_run hr]
    refine ⟨hwritten, fun k hk => ?_⟩
    exact (State.onSource_get d k (fun _ => r) s).trans (if_neg fun h => hk h.symm)
  · rw [hstands.eff]
    exact State.formDemand_emergency (State.emergencyDemanded_of (d := d) (by rw [hwritten]; exact he))

/-- Settles O22: the frame reaches the intake under a DEMAND entry in RUN, which refuses it, drops it or accepts it. -/
theorem demandFrameUpdatesItsSource : Obligations.DemandFrameUpdatesItsSource := by
  refine ⟨fun p f s stamp e d hrx hok hd hk hrun hm hrole hact => ?_, fun d stamp f s => ?_⟩
  · have harrival : exec (.frameArrival p f) s = .next (takeDemand d stamp f (s.endedGood p)) := by
      have heff : e.effective (s.endedGood p).agent.part = (e.action, e.role) :=
        ClassEntry.effective_awake fun h => h.1 hrun
      rw [exec_frameArrival_own hrx hok hd hk, State.takeOwn_role (s := s.endedGood p) hm heff hact (by simp [hrole]), hrole]
      rfl
    refine ⟨fun h => ?_, fun hl hmode hdup => ?_, fun hl hmode hnew => ?_⟩
    · exact harrival.trans (congrArg _ (takeDemand_refused h))
    · exact harrival.trans (congrArg _ (takeDemand_duplicate (s := s.endedGood p) hl hmode hdup))
    · obtain ⟨m, hmo, hcode⟩ := modeOf_code hmode
      have hacc := takeDemand_accepted (c := stamp) (s := s.endedGood p) hl hmo hnew
      obtain ⟨⟨timer, hsource⟩, hstay, hemergency⟩ := recompute_onSource hacc
      refine ⟨_, harrival, ?_, ?_, ?_, ⟨m, hcode, ?_, hacc, fun h => hemergency ?_⟩, fun hr => ?_, ?_, ?_, ?_⟩
      · rw [hsource]; rfl
      · rw [hsource]; rfl
      · rw [hsource]; rfl
      · rw [hsource]; rfl
      · simp [demandsEmergency, acceptedSource, demandPayload, h]
      · obtain ⟨hd, hk⟩ := hstay hr
        exact ⟨by rw [hd]; rfl, hk⟩
      all_goals simp [State.endedGood]
  · refine ⟨fun h => takeDemand_refused h, fun hl hmode hdup => takeDemand_duplicate hl hmode hdup, fun m hl hm hnew => ?_⟩
    have hmode : ((framePayload f).getD 0 0).toNat ≤ 4 := Nat.le_of_lt_succ (List.getElem?_eq_some_iff.1 hm).1
    exact takeDemand_accepted hl ((modeOf_eq hmode).trans hm) hnew

end Sys2Proof.Machine

/-! The time base: the count and its corrector (R23, R26), the mark capture (R32 to R35), and the services of the time requests
(R27 to R30, R34). -/

namespace Sys2Proof.Machine

/-! ## The count (R23, R26) -/

/-- The corrector carries when the sum reaches 2^24; with value 0 it never does. -/
theorem TimeBlock.step_eq (t : TimeBlock) :
    t.step = { t with
      count := t.count +
        (if t.accumulator.toNat + t.value.toNat < 2 ^ 24 ∨ t.value = 0 then 1 else if t.sense = .advance then 2 else 0)
      accumulator := t.accumulator + t.value } := by
  unfold TimeBlock.step
  by_cases hv : t.value = 0#24
  · simp [hv]
  · by_cases hc : t.accumulator.toNat + t.value.toNat < 16777216
    · have hacc : BitVec.ofNat 24 (t.accumulator.toNat + t.value.toNat) = t.accumulator + t.value := by bv_omega
      simp [hv, hc, hacc]
    · have hacc : BitVec.ofNat 24 (t.accumulator.toNat + t.value.toNat - 16777216) = t.accumulator + t.value := by bv_omega
      cases t.sense <;> simp [hv, hc, hacc]

/-- Steps move the count and the accumulator alone. -/
theorem TimeBlock.iterate_step (n : Nat) (t : TimeBlock) :
    ∃ count accumulator, TimeBlock.step^[n] t = { t with count := count, accumulator := accumulator } := by
  induction n with
  | zero => exact ⟨_, _, rfl⟩
  | succ n ih =>
    obtain ⟨_, _, h⟩ := ih
    rw [Function.iterate_succ_apply', TimeBlock.step_eq, h]
    exact ⟨_, _, rfl⟩

theorem TimeBlock.iterate_step_settings (n : Nat) (t : TimeBlock) :
    (TimeBlock.step^[n] t).value = t.value ∧ (TimeBlock.step^[n] t).sense = t.sense := by
  obtain ⟨_, _, h⟩ := t.iterate_step n
  rw [h]
  exact ⟨rfl, rfl⟩

/-- What the accumulator has taken in over `n` steps, its carries included (R26). -/
def TimeBlock.taken (n : Nat) (t : TimeBlock) : Nat := t.accumulator.toNat + n * t.value.toNat

theorem TimeBlock.taken_succ (n : Nat) (t : TimeBlock) : t.taken (n + 1) = t.taken n + t.value.toNat := by
  simp only [TimeBlock.taken, Nat.succ_mul, Nat.add_assoc]

/-- There are no more carries than steps. -/
theorem TimeBlock.carries_le (n : Nat) (t : TimeBlock) : t.taken n / 2 ^ 24 ≤ n := by
  have hv : n * t.value.toNat ≤ n * (2 ^ 24 - 1) := Nat.mul_le_mul_left n (by omega)
  have ha : t.accumulator.toNat < 2 ^ 24 := t.accumulator.isLt
  unfold TimeBlock.taken
  omega

theorem TimeBlock.iterate_step_accumulator (n : Nat) (t : TimeBlock) :
    (TimeBlock.step^[n] t).accumulator = BitVec.ofNat 24 (t.taken n) := by
  induction n with
  | zero => simp [TimeBlock.taken]
  | succ n ih =>
    rw [Function.iterate_succ_apply', TimeBlock.step_eq, TimeBlock.taken_succ]
    simp only [ih, (TimeBlock.iterate_step_settings n t).1]
    bv_omega

/-- The count after `n` steps: one for each, and one more or one less for each carry. -/
theorem TimeBlock.iterate_step_count (n : Nat) (t : TimeBlock) :
    (TimeBlock.step^[n] t).count = BitVec.ofNat 48 (t.count.toNat + n +
      (match t.sense with | .advance => t.taken n / 2 ^ 24 | .retard => 0) -
      (match t.sense with | .advance => 0 | .retard => t.taken n / 2 ^ 24)) := by
  induction n with
  | zero =>
    have hzero : t.taken 0 / 16777216 = 0 := Nat.le_zero.1 (t.carries_le 0)
    cases t.sense <;> simp [hzero]
  | succ n ih =>
    obtain ⟨hvalue, hsense⟩ := TimeBlock.iterate_step_settings n t
    rw [Function.iterate_succ_apply', TimeBlock.step_eq, TimeBlock.taken_succ]
    have hle := t.carries_le n
    have hv : t.value.toNat < 2 ^ 24 := t.value.isLt
    have hzero : t.value = 0 ↔ t.value.toNat = 0 := by bv_omega
    simp only [ih, hvalue, hsense, TimeBlock.iterate_step_accumulator, BitVec.toNat_ofNat, hzero]
    apply BitVec.eq_of_toNat_eq
    by_cases hc : t.taken n % 2 ^ 24 + t.value.toNat < 2 ^ 24 ∨ t.value.toNat = 0
    · have hnext : (t.taken n + t.value.toNat) / 2 ^ 24 = t.taken n / 2 ^ 24 := by omega
      rw [if_pos hc, hnext]
      cases t.sense <;> simp only [BitVec.ofNat_eq_ofNat, BitVec.toNat_add, BitVec.toNat_ofNat] <;> omega
    · have hnext : (t.taken n + t.value.toNat) / 2 ^ 24 = t.taken n / 2 ^ 24 + 1 := by omega
      rw [if_neg hc, hnext]
      cases t.sense <;>
        simp only [reduceCtorEq, if_true, if_false, BitVec.ofNat_eq_ofNat, BitVec.toNat_add, BitVec.toNat_ofNat] <;> omega

theorem exec_countStep (s : State) : exec .countStep s = .next { s with time := s.time.step } := rfl

/-- A run over steps of the count is as many steps of the time base. -/
theorem run_countSteps (n : Nat) (s : State) :
    Sys2Proof.core.run n (s.withPending (List.replicate n .countStep)) =
      .next { s with pending := [], time := TimeBlock.step^[n] s.time } := by
  induction n generalizing s with
  | zero => rfl
  | succ n ih =>
    have hstep : Sys2Proof.core.step (s.withPending (List.replicate (n + 1) .countStep)) =
        .next (State.withPending { s with time := s.time.step } (List.replicate n .countStep)) :=
      exec_countStep (s.withPending (List.replicate n .countStep))
    rw [run_succ_of_next hstep, ih]
    rfl

/-- Settles O4: one step, and the number of carries over `n` of them. -/
theorem countStepsFollowTheCorrector : Obligations.CountStepsFollowTheCorrector := by
  refine ⟨fun s => ?_, fun n s => ?_⟩
  · rw [exec_countStep, TimeBlock.step_eq]
  · obtain ⟨count, accumulator, h⟩ := s.time.iterate_step n
    have hcount : count = _ := (congrArg TimeBlock.count h).symm.trans (s.time.iterate_step_count n)
    have hacc : accumulator = _ := (congrArg TimeBlock.accumulator h).symm.trans (s.time.iterate_step_accumulator n)
    rw [run_countSteps, h, hcount, hacc]
    rfl

/-! ## The mark capture (R32 to R35) -/

section
variable {set : TimeSet} {m : MarkCapture} {stamp : Count} {payload : List Byte}

/-- A mark of another length is discarded (R32). -/
theorem MarkCapture.take_malformed (h : payload.length ≠ 8) : m.take set stamp payload = m.discard := if_pos h

variable (hl : payload.length = 8)
include hl

theorem MarkCapture.take_replaces (h : markReplaces set m stamp = true) :
    m.take set stamp payload =
      m.replace (BitVec.ofNat 16 (ofBytes (payload.take 2))) (BitVec.ofNat 48 (ofBytes (payload.drop 2))) stamp := by
  simp [MarkCapture.take, hl, h]

theorem MarkCapture.take_discards (h : ¬ markReplaces set m stamp = true) : m.take set stamp payload = m.discard := by
  simp [MarkCapture.take, hl, h]

end

/-- Table 2-3: only a FRESH mark is held, under a policy that holds it and, with expiry, within its hold time. -/
theorem markReplaces_iff (set : TimeSet) (m : MarkCapture) (stamp : Count) :
    markReplaces set m stamp = true ↔ m.state ≠ .fresh ∨ set.policy = .overwrite ∨
      (set.policy = .holdWithExpiry ∧ (set.hold * 1000 : Int) < elapsed m.stamp stamp) := by
  unfold markReplaces
  cases m.state <;> cases set.policy <;> simp

/-- Settles O7, along the three ways of a mark. -/
theorem markCaptureFollowsThePolicy : Obligations.MarkCaptureFollowsThePolicy := by
  intro set m stamp payload
  refine ⟨fun hl => ?_, fun hl hr => ?_, fun hl hr => ?_⟩
  · exact MarkCapture.take_malformed hl
  · exact MarkCapture.take_replaces hl ((markReplaces_iff ..).2 hr)
  · exact MarkCapture.take_discards hl (mt (markReplaces_iff ..).1 hr)

/-- A read leaves an EMPTY capture EMPTY and any mark READ (R34). -/
theorem MarkCapture.afterRead_eq (m : MarkCapture) :
    m.afterRead = { m with discards := 0, state := if m.state = .empty then .empty else .read } := by
  unfold MarkCapture.afterRead
  cases hm : m.state <;> simp

/-! ## Services of the time requests -/

theorem stampBytes_eq (c : Count) : stampBytes c = toBytes 6 c.toNat := rfl

/-- The data of READ_TIMEMARK: state, mark and discard count, the mark's bytes 0 in EMPTY (R34). -/
theorem MarkCapture.readData_eq (m : MarkCapture) :
    m.readData = (match m.state with | .empty => 0 | .fresh => 1 | .read => 2 : Byte) ::
      (if m.state = .empty then List.replicate 14 (0 : Byte)
        else toBytes 2 m.number.toNat ++ toBytes 6 m.master.toNat ++ toBytes 6 m.stamp.toNat) ++ [BitVec.ofNat 8 m.discards] := by
  have hzero : toBytes 14 0 = List.replicate 14 0 := rfl
  unfold MarkCapture.readData
  rw [hzero]
  cases m.state <;> rfl

/-- A sense byte names ADVANCE, RETARD or nothing (R27). -/
theorem senseOf_above {n : Nat} (h : 1 < n) : senseOf n = none := by
  match n, h with
  | _ + 2, _ => rfl

theorem senseOf_bit {n : Nat} (h : ¬ 1 < n) : senseOf n = some (if n = 0 then .advance else .retard) := by
  have : n = 0 ∨ n = 1 := by omega
  rcases this with rfl | rfl <;> rfl

section
variable {s : State} {r : Request} {rest : List Request}

theorem exec_timeRead (h : s.asks r rest 0x20) :
    exec .timeRead s = .next (if r.args = [] then s.replied r .ok s.time.readData else s.replied r .badRequest []) := by
  refine congrArg Host.Outcome.next ?_
  split
  · exact serve_answer h.1 (State.asks_ofKind h rfl) (if_neg (by simp [*]))
  · exact serve_refuse h.1 (State.asks_ofKind h rfl) (if_pos (by simpa using ‹_›))

theorem exec_readTimemark (h : s.asks r rest 0x23) :
    exec .readTimemark s = .next
      (if r.args = [] then s.markWasRead.replied r .ok s.time.mark.readData else s.replied r .badRequest []) := by
  refine congrArg Host.Outcome.next ?_
  split
  · exact serve_answer h.1 (State.asks_ofKind h rfl) (if_neg (by simp [*]))
  · exact serve_refuse h.1 (State.asks_ofKind h rfl) (if_pos (by simpa using ‹_›))

theorem exec_timeCorrect (h : s.asks r rest 0x22) :
    exec .timeCorrect s = .next
      (if r.args.length ≠ 4 then s.replied r .badRequest []
      else if 1 < r.arg 3 then s.replied r .badValue []
      else (s.loadCorrector (BitVec.ofNat 24 (r.number 0 3)) (if r.arg 3 = 0 then .advance else .retard)).replied r .ok []) := by
  refine congrArg Host.Outcome.next ?_
  split
  · exact serve_refuse h.1 (State.asks_ofKind h rfl) (if_pos ‹_›)
  · split
    · exact serve_refuse h.1 (State.asks_ofKind h rfl) (by simp [answerTimeCorrect, *, senseOf_above])
    · exact serve_answer h.1 (State.asks_ofKind h rfl) (by simp [answerTimeCorrect, *, senseOf_bit])

/-- A TIME_SET whose argument is no count (R28). -/
theorem exec_timeSet_length (h : s.asks r rest 0x21) (hl : r.args.length ≠ 6) :
    exec .timeSet s = .next (s.replied r .badRequest []) :=
  congrArg Host.Outcome.next (serve_refuse h.1 (State.asks_ofKind h rfl) (if_pos hl))

theorem exec_timeSet_locked (h : s.asks r rest 0x21) (hl : r.args.length = 6) (hp : s.agent.part = .run ∨ s.agent.part = .failsafe) :
    exec .timeSet s = .next (s.replied r .locked []) := by
  refine congrArg Host.Outcome.next (serve_refuse h.1 (State.asks_ofKind h rfl) ?_)
  rcases hp with hp | hp <;> simp [answerTimeSet, hl, hp]

theorem exec_timeSet_load (h : s.asks r rest 0x21) (hl : r.args.length = 6) (hp : s.agent.part = .pass ∨ s.agent.part = .config) :
    exec .timeSet s = .next
      ((s.loadCount (BitVec.ofNat 48 (ofBytes r.args))).replied r .ok (toBytes 6 s.time.count.toNat)) := by
  refine congrArg Host.Outcome.next (serve_answer h.1 (State.asks_ofKind h rfl) ?_)
  have hn : r.number 0 6 = ofBytes r.args := by
    rw [Request.number, List.drop_zero, List.take_of_length_le (by omega)]
  rcases hp with hp | hp <;> simp [answerTimeSet, hl, hp, hn, stampBytes_eq, State.now]

end

/-- Settles O5, by what each service answers. -/
theorem timeBaseServices : Obligations.TimeBaseServices := by
  intro s r rest
  refine ⟨fun h => ?_, fun h => ?_, fun h => ?_⟩
  · rw [exec_timeRead h, TimeBlock.readData, stampBytes_eq]
    cases s.time.sense <;> rfl
  · have hserved := exec_readTimemark h
    rw [MarkCapture.readData_eq, State.markWasRead, MarkCapture.afterRead_eq] at hserved
    exact hserved
  · rw [exec_timeCorrect h]
    have hzero : r.arg 3 = 0 ↔ r.args.getD 3 0 = 0 := BitVec.toNat_eq_nat.trans (by simp [byteAt])
    simp only [hzero]
    rfl

/-! ## The load of the count (R29) -/

section
variable (c : Count) (s : State)

theorem MarkCapture.shift_eq (d : Count) (m : MarkCapture) :
    m.shift d = { m with stamp := if m.state = .empty then m.stamp else m.stamp + d } := by
  unfold MarkCapture.shift
  split <;> rfl

theorem State.loadCount_mark : (s.loadCount c).time.mark = s.time.mark.shift (c - s.time.count) := rfl

theorem State.loadCount_port (p : Port) : (s.loadCount c).port p = (s.port p).shift (c - s.time.count) := by
  cases p <;> rfl

theorem State.loadCount_axleSpeed (i : AxleSlot) :
    (s.loadCount c).speed.axles[i] = (s.speed.axles[i]).shift (c - s.time.count) := vec6_get _ i

theorem State.loadCount_source (k : SourceSlot) :
    (s.loadCount c).demand.sources[k] = (s.demand.sources[k]).shift (c - s.time.count) := vec2_get _ k

theorem State.loadCount_axleSlide (i : AxleSlot) :
    (s.loadCount c).slide.axles[i] = (s.slide.axles[i]).shift (c - s.time.count) := vec6_get _ i

theorem State.loadCount_truckSlide (k : TruckSlot) :
    (s.loadCount c).slide.trucks[k] = (s.slide.trucks[k]).shift (c - s.time.count) := vec2_get _ k

theorem State.loadCount_node (n : NodeSlot) : (s.loadCount c).node n = (s.node n).shift (c - s.time.count) := vec8_get _ n

end

/-- Settles O6: the refusals, and the records moved by the step of the load, block by block. -/
theorem timeSetMovesTimersAndStamps : Obligations.TimeSetMovesTimersAndStamps := by
  intro s r rest h
  refine ⟨fun hl => exec_timeSet_length h hl, fun hl hp => exec_timeSet_locked h hl hp, fun hl hp => ?_⟩
  refine ⟨_, exec_timeSet_load h hl hp, rfl, rfl, rfl, rfl, ?mark, State.loadCount_port _ s, rfl, rfl, rfl, rfl, rfl, rfl, rfl,
    State.loadCount_axleSpeed _ s, rfl, State.loadCount_source _ s, rfl, rfl, State.loadCount_axleSlide _ s,
    State.loadCount_truckSlide _ s, State.loadCount_node _ s, rfl, rfl, rfl, rfl, rfl, rfl⟩
  rw [State.loadCount_mark, MarkCapture.shift_eq]

end Sys2Proof.Machine

/-! What stands through the reactions of one event: a pending event stays pending (R146), and a pass leaves the slide controller as
it stands, unless it brings a departure from RUN (R105, R174). -/

namespace Sys2Proof.Machine

/-! ## Pending events -/

theorem State.isPending_of_events {s t : State} {e : EventId} (hs : s.isPending e = true)
    (h : t.monitor.events = s.monitor.events := by simp) : t.isPending e = true := by
  rw [State.isPending, h]
  exact hs

/-- A raised event is pending. -/
theorem State.isPending_raised (e : EventId) (s : State) : (s.raise e).isPending e = true := by
  simp [State.isPending_raise]

section
variable {e : EventId} {s : State} (hs : s.isPending e = true)
include hs

theorem State.isPending_raise_of (f : EventId) : (s.raise f).isPending e = true := by
  simp [State.isPending_raise, hs]

theorem State.isPending_transitionEffects (n : NodeSlot) (x y : NodeState) : (s.transitionEffects n x y).isPending e = true := by
  unfold State.transitionEffects
  split
  · exact State.isPending_raise_of hs _
  · split
    · exact State.isPending_of_events (State.isPending_trigger (.nodeLost n) (State.isPending_raise_of hs (.nodeLost n)))
    · exact hs

theorem State.isPending_takeOutcome (n : NodeSlot) (good : Bool) : (s.takeOutcome n good).isPending e = true := by
  have hjudge (k : Nat) (t : State) : (t.judgeControlLoss k).isPending e = t.isPending e := by simp [State.isPending]
  rw [State.takeOutcome, hjudge]
  exact State.isPending_transitionEffects (s := s.onNode n _) hs n _ _

theorem State.isPending_supersede (n : NodeSlot) : (s.supersede n).isPending e = true := by
  unfold State.supersede
  split
  · exact State.isPending_of_events (State.isPending_takeOutcome (s := s.onNode n (NodeRec.miss false)) hs n false)
  · exact hs

theorem State.isPending_issueOrder (n : NodeSlot) : (s.issueOrder n).isPending e = true := by
  unfold State.issueOrder
  simp only
  split
  · exact State.isPending_of_events hs
  · exact State.isPending_takeOutcome (State.isPending_of_events hs) n false

theorem State.isPending_orderNode (n : NodeSlot) : (s.orderNode n).isPending e = true := by
  unfold State.orderNode
  split
  · exact State.isPending_issueOrder (State.isPending_supersede hs n) n
  · exact hs

theorem State.isPending_computeEpoch (k : EpochKind) : (s.computeEpoch k).isPending e = true := by
  unfold State.computeEpoch State.noteUnplaced
  simp only
  split
  · exact State.isPending_of_events (State.isPending_raise_of (s := s.beginEpoch) hs .airUnplaced)
  · exact State.isPending_of_events hs

theorem State.isPending_matchReport (n : NodeSlot) (c : Count) (g : Byte) (x y z : Nat) :
    (s.matchReport n c g x y z).isPending e = true := by
  unfold State.matchReport
  simp only
  split
  · have ho := State.isPending_takeOutcome (s := s.onNode n (NodeRec.answered (reportGood x (s.node n).exch.control) c))
      (State.isPending_of_events hs) n (reportGood x (s.node n).exch.control)
    split
    · exact State.isPending_of_events ho
    · exact ho
  · exact State.isPending_of_events hs

end

theorem isPending_keptByPasses (e : EventId) : KeptByPasses fun s => s.isPending e = true where
  drawn _ hs := State.isPending_of_events hs
  raise f _ hs := State.isPending_raise_of hs f
  trigger c _ _ hs := State.isPending_trigger c hs
  failsafe _ _ _ _ hs := State.isPending_of_events (State.isPending_trigger .failsafeEntry hs)
  run _ _ _ hs := State.isPending_of_events hs
  fallback _ _ hs := State.isPending_of_events hs

/-- Nothing but READ_EVENTS and a reset takes a pending event away (R146, R148). -/
theorem isPending_keptWithin (e : EventId) : KeptWithin fun s => s.isPending e = true where
  toKeptByPasses := isPending_keptByPasses e
  axleSpeed _ _ _ hs := State.isPending_of_events hs
  ref _ _ hs := State.isPending_of_events hs
  demand _ hs := State.isPending_of_events hs
  source _ _ _ _ _ _ _ _ hs := State.isPending_of_events hs
  restAxle _ _ hs := State.isPending_of_events hs
  slip _ _ _ hs := State.isPending_of_events hs
  evaluated _ _ hs := State.isPending_of_events hs
  extra s _ hs := (isPending_keptByPasses e).takeEpoch (fun n _ _ ht => State.isPending_orderNode ht n)
    (fun _ ht => State.isPending_of_events ht) .extra s (State.isPending_computeEpoch hs .extra)
  report n c g x y z _ _ hs := State.isPending_matchReport hs n c g x y z
  time _ _ hs := State.isPending_of_events hs
  overflow _ _ hs := State.isPending_of_events hs
  unclaimed _ hs := State.isPending_of_events hs
  demandRefused _ hs := State.isPending_of_events hs
  sampleRefused _ hs := State.isPending_of_events hs
  reportRefused _ hs := State.isPending_of_events hs
  responseDropped _ hs := State.isPending_of_events hs
  accept _ _ _ _ _ _ _ hs := State.isPending_of_events hs
  forward _ _ _ _ hs := State.isPending_of_events hs
  push _ _ _ hs := State.isPending_of_events hs

/-! ## The slide controller through a pass -/

/-- The slide controller's block is `x`, or has returned to its start with a departure from RUN. -/
theorem slideStands_keptByPasses (x : SlideBlock) : KeptByPasses fun s => s.slide = x ∨ s.slide = SlideBlock.powerOn where
  drawn _ hs := hs
  raise _ _ hs := by simpa using hs
  trigger _ _ _ hs := by simpa using hs
  failsafe _ _ _ _ _ := .inr (by simp [State.leaveRun])
  run _ _ _ hs := hs
  fallback _ _ hs := hs

theorem State.referenceReaders_slide (s : State) :
    s.referenceReaders.slide = s.slide ∨ s.referenceReaders.slide = SlideBlock.powerOn :=
  (slideStands_keptByPasses s.slide).withMonitor _ (fun _ ht => by simpa using ht) s (.inl rfl)

end Sys2Proof.Machine

/-! The expiry of an age timer and of the reference's hold timer (R44, R46, R50, R109). -/

namespace Sys2Proof.Machine

/-! ## A VALID axle that becomes STALE -/

/-- The axle is STALE and its slide part at rest; the reference is not judged yet. -/
def State.aged (i : AxleSlot) (s : State) : State := (s.onAxleSpeed i AxleSpeed.age).restAxle i

theorem State.aged_axle (i j : AxleSlot) (s : State) :
    (s.aged i).speed.axles[j] = if i = j then s.speed.axles[i].age else s.speed.axles[j] := State.onAxleSpeed_get ..

theorem State.aged_slide (i : AxleSlot) (s : State) : (s.aged i).slide.axles[i] = s.slide.axles[i].rest :=
  (State.onAxleSlide_get i i _ (s.onAxleSpeed i AxleSpeed.age)).trans (if_pos rfl)

/-- The axle is not VALID any more, so the VALID ones are the others. -/
theorem State.aged_valid_iff (i j : AxleSlot) (s : State) :
    (s.aged i).speed.axles[j].validity = .valid ↔ j ≠ i ∧ s.speed.axles[j].validity = .valid := by
  rw [State.aged_axle]
  split
  · simp [AxleSpeed.age, *]
  · simp [Ne.symm ‹¬ i = j›]

section
variable {i : AxleSlot} {s : State} (hv : s.speed.axles[i].validity = .valid)
include hv

theorem State.ageAxle_other (h : ∃ j, j ≠ i ∧ s.speed.axles[j].validity = .valid) : s.ageAxle i = s.aged i := by
  have hw : s.axleValid i = true := by simpa [State.axleValid] using hv
  obtain ⟨j, hj⟩ := h
  rw [State.ageAxle, hw]
  exact State.axleLost_other ⟨j, (State.aged_valid_iff i j s).2 hj⟩

theorem State.ageAxle_last (h : ∀ j, j ≠ i → s.speed.axles[j].validity ≠ .valid) :
    s.ageAxle i = (s.aged i).holdReference.referenceReaders := by
  have hw : s.axleValid i = true := by simpa [State.axleValid] using hv
  rw [State.ageAxle, hw]
  exact State.axleLost_last fun j hj => h j ((State.aged_valid_iff i j s).1 hj).1 ((State.aged_valid_iff i j s).1 hj).2

end

/-! ## The reference record -/

theorem State.holdReference_valid {s : State} (h : s.speed.ref.state = .valid) :
    s.holdReference = (s.setRef (s.speed.ref.hold s.now s.tables.speed.holdTime)).raise .refHeld := if_pos h

theorem State.holdReference_axles (s : State) : s.holdReference.speed.axles = s.speed.axles := by
  unfold State.holdReference
  split <;> simp

/-- An age timer's expiry leaves the axle's slide part at rest, in the readers' reaction too. -/
theorem AxleSlide.rest_of_stands {x y : SlideBlock} {i : AxleSlot} {a : AxleSlide} (h : y = x ∨ y = SlideBlock.powerOn)
    (hx : x.axles[i] = a.rest) : y.axles[i].state = .normal ∧ y.axles[i].limit = none ∧ y.axles[i].ceiling = none := by
  rcases h with rfl | rfl
  · rw [hx]
    exact ⟨rfl, rfl, rfl⟩
  · have : SlideBlock.powerOn.axles[i] = AxleSlide.powerOn := vec6_get _ i
    rw [this]
    exact ⟨rfl, rfl, rfl⟩

/-- What an age timer's expiry makes of the axle, of the others and of the reference (R44, R50, R109). -/
theorem State.ageAxle_records {i : AxleSlot} {s t : State} (hv : s.speed.axles[i].validity = .valid) (ht : t = s.ageAxle i) :
    (∀ j : AxleSlot, t.speed.axles[j] = (s.aged i).speed.axles[j]) ∧
    (t.slide.axles[i].state = .normal ∧ t.slide.axles[i].limit = none ∧ t.slide.axles[i].ceiling = none) ∧
    (if s.speed.ref.state = .valid ∧ ∀ j : AxleSlot, j ≠ i → s.speed.axles[j].validity ≠ .valid then
      t.speed.ref = s.speed.ref.hold s.now s.tables.speed.holdTime ∧ t.isPending .refHeld
    else t.speed.ref = s.speed.ref) := by
  by_cases ho : ∃ j, j ≠ i ∧ s.speed.axles[j].validity = .valid
  · rw [State.ageAxle_other hv ho] at ht
    subst ht
    obtain ⟨j, hj, hjv⟩ := ho
    refine ⟨fun _ => rfl, AxleSlide.rest_of_stands (.inl rfl) (s.aged_slide i), ?_⟩
    rw [if_neg fun h => h.2 j hj hjv]
    rfl
  · have hlast : ∀ j, j ≠ i → s.speed.axles[j].validity ≠ .valid := fun j hj hjv => ho ⟨j, hj, hjv⟩
    rw [State.ageAxle_last hv hlast] at ht
    subst ht
    refine ⟨fun j => ?_, AxleSlide.rest_of_stands (x := (s.aged i).slide) ?_ (s.aged_slide i), ?_⟩
    · simp [State.holdReference_axles]
    · simpa using State.referenceReaders_slide (s.aged i).holdReference
    · by_cases hr : s.speed.ref.state = .valid
      · rw [if_pos ⟨hr, hlast⟩, State.holdReference_valid (s := s.aged i) hr]
        refine ⟨?_, (isPending_keptWithin .refHeld).referenceReaders _ (State.isPending_raised ..)⟩
        simp [State.aged, State.now]
      · rw [if_neg fun h => hr h.1, State.holdReference_idle (s := s.aged i) hr]
        simp [State.aged]

/-- Settles O19: the axle's loss with and without another VALID axle, and the reference's expiry. -/
theorem speedTimersExpire : Obligations.SpeedTimersExpire := by
  refine ⟨fun i s hd => onExpiry_waiting _ hd, fun i s hd hv => ?_, fun i s hd hv => ⟨fun ho => ?_, fun hlast => ?_⟩,
    fun s hd => onExpiry_waiting _ hd, fun s hd => onExpiry_due _ hd, fun s hd => ?_⟩
  · obtain ⟨haxles, ⟨hstate, hlimit, hceiling⟩, href⟩ := State.ageAxle_records hv rfl
    refine ⟨_, onExpiry_due _ hd, ?_, fun j hj => ?_, hstate, hlimit, hceiling, href, by simp, by simp⟩
    · exact (haxles i).trans ((s.aged_axle i i).trans (if_pos rfl))
    · exact (haxles j).trans ((s.aged_axle i j).trans (if_neg (Ne.symm hj)))
  · exact (onExpiry_due _ hd).trans (congrArg _ (State.ageAxle_other hv ho))
  · exact (onExpiry_due _ hd).trans (congrArg _ (State.ageAxle_last hv hlast))
  · refine ⟨_, onExpiry_due _ hd, ?_, (isPending_keptWithin .refInvalid).referenceReaders _ (State.isPending_raised ..), ?_, ?_, ?_⟩
    all_goals simp [State.expireReference, RefRecord.expire]

end Sys2Proof.Machine

/-! The loss of a demand source (R58 to R60). -/

namespace Sys2Proof.Machine

/-! ## The level a LOST source holds -/

/-- A required source that is LOST contributes the penalty level (Table 4-4). -/
theorem contribution_lost {b : BlendSet} {d : SourceSlot} {r : SourceRec} (hl : r.state = .lost) (hr : required d b.protection = true) :
    contribution b d r = some ⟨.blended, b.penalty, .penalty⟩ := by
  simp [contribution, hl, hr]

/-- The contribution that wins has the higher level (Table 4-6). -/
theorem level_le_winner {c0 c1 : Option Contribution} {c : Contribution} (h : c0 = some c ∨ c1 = some c) :
    c.level ≤ (winner c0 c1).level := by
  unfold winner
  split
  · simp at h
  · simp_all
  · simp_all
  · simp only [Option.some.injEq] at h
    split <;> rcases h with rfl | rfl <;> omega

/-- Short of an emergency a required source's loss holds the level at the penalty level or above (R59, R60). -/
theorem State.penalty_le_formDemand {s : State} {d : SourceSlot} (hl : s.demand.sources[d].state = .lost)
    (hr : required d s.tables.blend.protection = true) (hm : s.formDemand.mode ≠ .emergency) :
    s.tables.blend.penalty ≤ s.formDemand.level := by
  have hlost := contribution_lost hl hr
  unfold State.formDemand at hm ⊢
  simp only at hm ⊢
  split at hm
  · exact absurd rfl hm
  · rw [if_neg ‹_›]
    refine level_le_winner (c := ⟨.blended, s.tables.blend.penalty, .penalty⟩) ?_
    match d with
    | 0 => exact .inl hlost
    | 1 => exact .inr hlost

/-! ## A recomputation outside RUN -/

/-- Outside RUN an entry into EMERGENCY takes no extra epoch, and the demand intake stands (R69). -/
theorem State.enterEmergency_outside {s : State} (h : s.agent.part ≠ .run) : s.enterEmergency.demand = s.demand := by
  have hkept := State.unordered3_keeps (fun t => t.demand = s.demand ∧ t.agent.part ≠ .run)
    (f := State.raise .emergencyEntered) (g := State.trigger .emergencyEntry) (h := State.extraEpoch)
    (by simp) (by simp) (by simp) (fun t ht => by simpa [State.extraEpoch, State.running, ht.2] using ht.1) s ⟨rfl, h⟩
  exact hkept.1

theorem State.recompute_outside {s : State} (h : s.agent.part ≠ .run) :
    s.recompute.demand = { s.demand with eff := s.formDemand } := by
  unfold State.recompute
  simp only
  split
  · exact State.enterEmergency_outside (s := s.setEff s.formDemand) h
  · rfl

/-- A recomputation that leaves the part state as it is leaves the source records too. -/
theorem State.recompute_sources {s : State} (h : s.recompute.agent.part = s.agent.part) :
    s.recompute.demand.sources = s.demand.sources := by
  by_cases hr : s.agent.part = .run
  · rw [s.recompute_demandStands.in_run (h.trans hr)]
  · rw [State.recompute_outside hr]

/-! ## The expiry of a loss timer -/

/-- The source is LOST, the event raised and the trigger given; the effective demand is not formed anew yet. -/
def State.sourceLost (d : SourceSlot) (s : State) : State :=
  ((s.onSource d SourceRec.lose).raise (.demandLost d)).trigger (.demandLost d)

theorem State.loseSource_eq (d : SourceSlot) (s : State) : s.loseSource d = (s.sourceLost d).recompute := rfl

theorem State.sourceLost_source (d k : SourceSlot) (s : State) :
    (s.sourceLost d).demand.sources[k] = if d = k then s.demand.sources[d].lose else s.demand.sources[k] := by
  have : (s.sourceLost d).demand = (s.onSource d SourceRec.lose).demand := by simp [State.sourceLost]
  rw [this, State.onSource_get]

/-- Settles O23, by the records before the recomputation and what the recomputation leaves of them. -/
theorem demandLossBringsThePenalty : Obligations.DemandLossBringsThePenalty := by
  refine fun d s => ⟨fun hd => onExpiry_waiting _ hd, fun hd => ?_⟩
  have hlost : (s.sourceLost d).demand.sources[d] = s.demand.sources[d].lose := (s.sourceLost_source d d).trans (if_pos rfl)
  have hstands := (s.sourceLost d).recompute_demandStands
  refine ⟨_, onExpiry_due _ hd, rfl, ?_, ?_, fun hreq hm => ?_, fun hpart k hk => ?_, by simp, by simp, by simp⟩
  · rw [State.loseSource_eq]
    rcases hstands with h | ⟨h, -⟩
    · rw [h]
      exact hlost
    · rw [h, DemandBlock.leaveRun_source]
      exact congrArg (fun r => { r with timer := none }) hlost
  · exact (isPending_keptWithin (.demandLost d)).recompute _ (State.isPending_trigger _ (State.isPending_raised ..))
  · rw [State.loseSource_eq, hstands.eff] at hm ⊢
    have htables : (s.sourceLost d).tables = s.tables := by simp [State.sourceLost]
    rw [← htables]
    refine State.penalty_le_formDemand (d := d) (by rw [hlost]; rfl) ?_ hm
    simpa [required, htables] using hreq
  · have hagent : (s.sourceLost d).agent = s.agent := by simp [State.sourceLost]
    rw [State.loseSource_eq] at hpart ⊢
    rw [State.recompute_sources (hpart.trans (by rw [hagent])), State.sourceLost_source, if_neg (Ne.symm hk)]

end Sys2Proof.Machine

/-! An epoch: its computation, its publication, and what the reactions leave of it (R68 to R71, R86, R87). -/

namespace Sys2Proof.Machine

/-! ## Ramps keep the targets they are given (R95, R100) -/

theorem rampAxle_target (set : RampSet) (interval : Nat) (bypass relief : Bool) (target : Nat) (a : AxleDrive) :
    (rampAxle set interval bypass relief target a).target = target := by
  unfold rampAxle
  repeat' split
  all_goals rfl

theorem rampTruck_target (set : RampSet) (interval : Nat) (m : Mode) (r : Relief) (emergency target : Nat) (t : TruckDrive) :
    (rampTruck set interval m r emergency target t).target = target := by
  unfold rampTruck
  repeat' split
  all_goals rfl

theorem State.ramp_axle_target (g : Targets) (interval : Nat) (s : State) (i : AxleSlot) :
    (s.ramp g interval).blend.axles[i].target = g.axles[i] :=
  (congrArg AxleDrive.target (vec6_get _ i)).trans (rampAxle_target ..)

theorem State.ramp_truck_target (g : Targets) (interval : Nat) (s : State) (k : TruckSlot) :
    (s.ramp g interval).blend.trucks[k].target = g.trucks[k] :=
  (congrArg TruckDrive.target (vec2_get _ k)).trans (rampTruck_target ..)

/-! ## The computation and its publication (R71, R86) -/

/-- Of the blend engine the noting of unplaced air changes what the next epoch compares with, and nothing else (R80). -/
theorem State.noteUnplaced_blend (n : Nat) (s : State) : (s.noteUnplaced n).blend = { s.blend with prevUnplaced := n } := by
  unfold State.noteUnplaced
  simp only
  split <;> simp

/-- Stages 1 to 4 of an epoch of interval `ms`: all but the publication. -/
def State.ramped (ms : Nat) (s : State) : State :=
  (s.beginEpoch.noteUnplaced s.beginEpoch.targets.totals.unplaced).ramp s.beginEpoch.targets ms

theorem State.computeEpoch_ramped (k : EpochKind) (s : State) :
    s.computeEpoch k =
      { s.ramped (s.epochInterval k) with blend := { (s.ramped (s.epochInterval k)).blend with
        pub := (s.ramped (s.epochInterval k)).publication k (s.epochInterval k) s.beginEpoch.targets } } := rfl

/-- The publication of an epoch, its number, time, demand and reference as they stand (R86). -/
theorem State.ramped_publication (k : EpochKind) (ms : Nat) (s : State) :
    (s.ramped ms).publication k ms s.beginEpoch.targets =
      { epoch := s.blend.epoch + 1, time := s.now, kind := k, interval := ms, demand := s.demand.eff, fallback := s.blend.fallback
        refValue := s.speed.ref.value, refState := s.speed.ref.state, estimate := s.speed.ref.estimate
        totals := s.beginEpoch.targets.totals
        trucks := vec2 fun i =>
          { target := s.beginEpoch.targets.trucks[i], output := (s.ramped ms).blend.trucks[i].output
            relief := s.beginEpoch.slide.trucks[i].request }
        axles := vec6 fun i => { target := s.beginEpoch.targets.axles[i], output := (s.ramped ms).blend.axles[i].output } } := by
  have hblend : (s.ramped ms).blend.epoch = s.blend.epoch + 1 ∧ (s.ramped ms).blend.fallback = s.blend.fallback := by
    simp only [State.ramped, State.ramp, State.noteUnplaced_blend]
    exact ⟨rfl, rfl⟩
  have hnow : (s.ramped ms).now = s.now := by simp [State.ramped, State.now]
  have hdemand : (s.ramped ms).demand = s.demand := by simp [State.ramped]
  have hspeed : (s.ramped ms).speed = s.speed := by simp [State.ramped]
  have hslide : (s.ramped ms).slide = s.beginEpoch.slide := by simp [State.ramped]
  have haxle (i : AxleSlot) : (s.ramped ms).blend.axles[i].target = s.beginEpoch.targets.axles[i] := State.ramp_axle_target ..
  have htruck (i : TruckSlot) : (s.ramped ms).blend.trucks[i].target = s.beginEpoch.targets.trucks[i] := State.ramp_truck_target ..
  simp only [State.publication, hblend.1, hblend.2, hnow, hdemand, hspeed, hslide, haxle, htruck]

/-- No stage of an epoch moves the epoch timer. -/
theorem State.computeEpoch_timer (k : EpochKind) (s : State) : (s.computeEpoch k).blend.timer = s.blend.timer := by
  simp only [State.computeEpoch_ramped, State.ramped, State.ramp, State.noteUnplaced_blend]
  rfl

theorem State.computeEpoch_epoch (k : EpochKind) (s : State) : (s.computeEpoch k).blend.epoch = s.blend.epoch + 1 := by
  simp only [State.computeEpoch_ramped, State.ramped, State.ramp, State.noteUnplaced_blend]
  rfl

/-! ## What the reactions leave (R87) -/

/-- Number and publication of the blend engine are those of `b`, and in RUN its timer is. -/
structure State.EpochStands (b : BlendBlock) (s : State) : Prop where
  epoch : s.blend.epoch = b.epoch
  pub : s.blend.pub = b.pub
  timer : s.agent.part = .run → s.blend.timer = b.timer

theorem State.EpochStands.of_blocks {b : BlendBlock} {s t : State} (hs : s.EpochStands b) (hb : t.blend = s.blend := by simp)
    (ha : t.agent = s.agent := by simp) : t.EpochStands b :=
  ⟨hb ▸ hs.epoch, hb ▸ hs.pub, by rw [ha, hb]; exact hs.timer⟩

/-- A departure from RUN within a pass stops the timer and keeps the last publication (R90). -/
theorem epochStands_keptByPasses (b : BlendBlock) : KeptByPasses (State.EpochStands b) where
  drawn _ hs := hs.of_blocks
  raise _ _ hs := hs.of_blocks
  trigger _ _ _ hs := hs.of_blocks
  failsafe c n s _ hs := by
    have hblend : (State.leaveRun .failsafe (State.setCause c n (s.trigger .failsafeEntry))).blend = s.blend.leaveRun := by
      simp [State.leaveRun]
    exact ⟨by rw [hblend]; exact hs.epoch, by rw [hblend]; exact hs.pub, fun h => absurd h (by simp [State.leaveRun])⟩
  run _ _ _ hs := hs.of_blocks
  fallback _ _ hs := ⟨hs.epoch, hs.pub, hs.timer⟩

theorem State.takeEpoch_epochStands (k : EpochKind) (s : State) : (s.takeEpoch k).EpochStands (s.computeEpoch k).blend :=
  (epochStands_keptByPasses _).takeEpoch (fun _ _ _ ht => ht.of_blocks) (fun _ ht => ht.of_blocks) k s ⟨rfl, rfl, fun _ => rfl⟩

/-! ## The epoch timer (R68) -/

/-- The epoch timer's next expiry counts from the one reached. -/
def State.rescheduled (e : Count) (s : State) : State :=
  { s with blend := { s.blend with timer := some (e + BitVec.ofNat 48 (s.tables.blend.period * 1000)) } }

theorem exec_epochTimerExpiry {s : State} {e : Count} (ht : s.blend.timer = some e) (he : 0 ≤ elapsed e s.now) :
    exec .epochTimerExpiry s = .next ((s.rescheduled e).takeEpoch .regular) := by
  have hd : s.blend.timer.due s.now = true := by simp [ht, Timer.due, he]
  refine (onExpiry_due _ hd).trans (congrArg Host.Outcome.next ?_)
  rw [State.regularEpoch, ht]
  rfl

/-- Settles O26: the schedule, the epoch's records through the reactions, and its computation. -/
theorem epochPublishesItsTargets : Obligations.EpochPublishesItsTargets := by
  refine ⟨fun s hd => onExpiry_waiting _ hd, fun s e ht he => exec_epochTimerExpiry ht he, fun s e ht he => ?_, fun s k => ?_⟩
  · have hstands := (s.rescheduled e).takeEpoch_epochStands .regular
    have hpub := hstands.pub.trans ((s.rescheduled e).ramped_publication .regular s.tables.blend.period)
    refine ⟨_, exec_epochTimerExpiry ht he, ?_, congrArg Publication.epoch hpub, congrArg Publication.time hpub,
      congrArg Publication.kind hpub, congrArg Publication.interval hpub, congrArg Publication.demand hpub,
      congrArg Publication.fallback hpub, congrArg Publication.refValue hpub, congrArg Publication.refState hpub,
      congrArg Publication.estimate hpub, congrArg Publication.totals hpub, fun i => ?_, fun i => ?_, fun hr => ?_,
      ((s.rescheduled e).takeEpoch_demandStands .regular).eff, ?_, ?_, ?_⟩
    · exact hstands.epoch.trans (State.computeEpoch_epoch ..)
    · rw [hpub]
      exact congrArg AxlePub.target (vec6_get _ i)
    · rw [hpub]
      exact congrArg TruckPub.target (vec2_get _ i)
    · exact (hstands.timer hr).trans (State.computeEpoch_timer ..)
    all_goals simp [State.rescheduled]
  · intro ms g w
    have hms : s.epochInterval k = ms := by cases k <;> rfl
    refine ⟨rfl, ?_, State.computeEpoch_timer k s, _, rfl⟩
    rw [State.computeEpoch_ramped, hms, State.ramped_publication]
    rfl

end Sys2Proof.Machine

/-! The slide controller's timers and the relief requests of an epoch (R114, R118 to R120). -/

namespace Sys2Proof.Machine

/-! ## The hold timer (R114) -/

/-- A slip above the release starts the hold time again. -/
theorem holdExpired_slipping {set : SlideSet} {now : Count} {a : AxleSlide} (h : ¬ a.slip ≤ set.slipRelease) :
    holdExpired set now a = { a with holdTimer := startTimer now set.holdTime } := if_neg h

/-- An axle that has recovered is reapplied under its ceiling, or is NORMAL. -/
theorem holdExpired_recovered {set : SlideSet} {now : Count} {a : AxleSlide} {l c : Nat} (h : a.slip ≤ set.slipRelease)
    (hl : a.limit = some l) (hc : a.ceiling = some c) :
    holdExpired set now a =
      if l < c then { a with state := .reapply, holdTimer := none }
      else { a with state := .normal, limit := none, cycles := 0, holdTimer := none } := by
  simp [holdExpired, h, hl, hc]

theorem State.onAxleSlide_congr {i : AxleSlot} {f g : AxleSlide → AxleSlide} {s : State}
    (h : f s.slide.axles[i] = g s.slide.axles[i]) : s.onAxleSlide i f = s.onAxleSlide i g := by
  simp only [State.onAxleSlide, h]

theorem exec_slideHoldExpiry (i : AxleSlot) (s : State) :
    exec (.slideHoldExpiry i) s = onExpiry s.slide.axles[i].holdTimer s fun u =>
      u.onAxleSlide i (holdExpired u.tables.slide u.now) := rfl

theorem exec_reliefLockoutExpiry (k : TruckSlot) (s : State) :
    exec (.reliefLockoutExpiry k) s = onExpiry s.slide.trucks[k].timer s fun u =>
      (u.onTruckSlide k TruckSlide.lockOut).raise (.reliefLockout k) := rfl

/-- A hold timer that is due has its axle judged on its latest slip. -/
theorem exec_slideHoldExpiry_due {i : AxleSlot} {s : State} {f : AxleSlide → AxleSlide}
    (hd : Timer.due s.slide.axles[i].holdTimer s.now) (hf : holdExpired s.tables.slide s.now s.slide.axles[i] = f s.slide.axles[i]) :
    exec (.slideHoldExpiry i) s = .next (s.onAxleSlide i f) := by
  rw [exec_slideHoldExpiry, onExpiry_due _ hd, State.onAxleSlide_congr hf]

/-! ## The wanted request (R118) -/

theorem State.underAir_iff (s : State) (k : TruckSlot) :
    s.underAir k = true ↔ ∃ kPa, (s.node (valveOf k)).achieved = some kPa ∧ s.tables.truck[k].dead < kPa := by
  unfold State.underAir
  cases (s.node (valveOf k)).achieved <;> simp

theorem State.inRelief_iff (s : State) (i : AxleSlot) : s.inRelief i = true ↔ s.slide.axles[i].state = .relief :=
  beq_iff_eq

theorem State.inReliefOrHold_iff (s : State) (i : AxleSlot) :
    s.inReliefOrHold i = true ↔ s.slide.axles[i].state = .relief ∨ s.slide.axles[i].state = .hold := by
  simp [State.inReliefOrHold]

/-- Two axles in RELIEF, or one without output under air. -/
def State.Vents (s : State) (k : TruckSlot) : Prop :=
  2 ≤ (axlesOf k).countP (fun i => s.inRelief i) ∨
    (∃ i ∈ axlesOf k, s.slide.axles[i].state = .relief ∧ s.blend.axles[i].output = 0) ∧
      ∃ kPa, (s.node (valveOf k)).achieved = some kPa ∧ s.tables.truck[k].dead < kPa

/-- One axle in RELIEF or HOLD. -/
def State.Holds (s : State) (k : TruckSlot) : Prop :=
  ∃ i ∈ axlesOf k, s.slide.axles[i].state = .relief ∨ s.slide.axles[i].state = .hold

section
variable {s : State} {k : TruckSlot}

theorem State.vents_iff :
    s.Vents k ↔ 2 ≤ (axlesOf k).countP (fun i => s.inRelief i) ∨
      ((axlesOf k).any fun i => s.inRelief i && s.blend.axles[i].output == 0) ∧ s.underAir k := by
  simp only [State.Vents, State.underAir_iff, List.any_eq_true, Bool.and_eq_true, State.inRelief_iff, beq_iff_eq]

theorem State.holds_iff : s.Holds k ↔ ((axlesOf k).any fun i => s.inReliefOrHold i) = true := by
  simp only [State.Holds, List.any_eq_true, State.inReliefOrHold_iff]

theorem State.wantedRelief_vent (h : s.Vents k) : s.wantedRelief k = .vent := if_pos (State.vents_iff.1 h)

theorem State.wantedRelief_hold (h : ¬ s.Vents k) (hh : s.Holds k) : s.wantedRelief k = .hold :=
  (if_neg (mt State.vents_iff.2 h)).trans (if_pos (State.holds_iff.1 hh))

theorem State.wantedRelief_calm (h : ¬ s.Vents k) (hh : ¬ s.Holds k) : s.wantedRelief k = .calm :=
  (if_neg (mt State.vents_iff.2 h)).trans (if_neg (mt State.holds_iff.2 hh))

end

/-! ## The request and its lockout (R119, R120) -/

theorem State.formRelief_truck (s : State) (k : TruckSlot) :
    s.formRelief.slide.trucks[k] = (s.slide.trucks[k]).form s.tables.slide.lockoutTime s.now (s.wantedRelief k)
      ((axlesOf k).any fun i => s.inRelief i) := vec2_get _ k

theorem TruckSlide.form_locked {t : TruckSlide} (h : t.lockedOut = true) (lockout : Nat) (now : Count) (wanted : Relief) (any : Bool) :
    t.form lockout now wanted any = { request := .calm, timer := none, lockedOut := any } := if_pos h

theorem TruckSlide.form_free {t : TruckSlide} (h : t.lockedOut = false) (lockout : Nat) (now : Count) (wanted : Relief) (any : Bool) :
    t.form lockout now wanted any =
      { request := wanted, lockedOut := false
        timer := if wanted = .calm then none
          else if t.request = .calm then startTimer now lockout
          else t.timer } := if_neg (by simp [h])

/-- Settles O31: the hold timer's three outcomes, the lockout, and the requests by what each truck wants. -/
theorem slideTimersAndReliefRequests : Obligations.SlideTimersAndReliefRequests := by
  refine ⟨fun i s => ⟨fun hd => ?_, fun hd hslip => ?_, fun l c hd hslip hl hc => ?_⟩, fun k s => ⟨fun hd => ?_, fun hd => ?_⟩,
    fun s => ⟨rfl, fun k => ⟨fun hl => ?_, fun hl => ?_⟩⟩⟩
  · rw [exec_slideHoldExpiry, onExpiry_waiting _ hd]
  · exact exec_slideHoldExpiry_due hd (holdExpired_slipping hslip)
  · exact exec_slideHoldExpiry_due hd (holdExpired_recovered hslip hl hc)
  · rw [exec_reliefLockoutExpiry, onExpiry_waiting _ hd]
  · rw [exec_reliefLockoutExpiry, onExpiry_due _ hd]
    rfl
  · exact (s.formRelief_truck k).trans (TruckSlide.form_locked hl ..)
  · exact ⟨s.wantedRelief k, State.wantedRelief_vent, State.wantedRelief_hold, State.wantedRelief_calm,
      (s.formRelief_truck k).trans (TruckSlide.form_free hl ..)⟩

end Sys2Proof.Machine

/-! An exchange that ends missed at its deadline, and the control-loss timer (R129, R132, R133, R136). -/

namespace Sys2Proof.Machine

/-! ## Nodes in service (R136) -/

theorem NodeState.inService_eq (st : NodeState) : st.inService = (st == .active || st == .degraded) := by cases st <;> rfl

theorem State.servingNodes_eq (s : State) : s.servingNodes = s.inService := by
  simp only [State.servingNodes, State.inService, State.nodeInService, NodeState.inService_eq]

/-- A missed outcome brings no node into service (Table 8-4). -/
theorem Supervision.inService_of_missed {e : NodeEntry} {u : Supervision} (h : (u.after e false).state.inService = true) :
    u.state.inService = true := by
  cases hu : u.state <;> simp [Supervision.after, hu, NodeState.inService] at h ⊢

theorem Supervision.missed_degraded {e : NodeEntry} {u : Supervision} (hx : u.state = .active)
    (h : e.degrade ≤ (u.after e false).missRun) : (u.after e false).state = .degraded := by
  have hrun : e.degrade ≤ bump 255 u.missRun := h
  simp [Supervision.after, hx, hrun]

theorem Supervision.missed_lost {e : NodeEntry} {u : Supervision} (hx : u.state = .degraded)
    (h : e.lost ≤ (u.after e false).missRun) : (u.after e false).state = .lost := by
  have hrun : e.lost ≤ bump 255 u.missRun := h
  simp [Supervision.after, hx, hrun]

theorem Supervision.missed_unjoined {e : NodeEntry} {u : Supervision} (hx : u.state = .joining) :
    (u.after e false).state = .lost := by
  simp [Supervision.after, hx]

theorem State.inService_missed_le (n : NodeSlot) (s : State) : (s.takeOutcome n false).inService ≤ s.inService := by
  refine List.countP_mono_left fun m _ hm => ?_
  simp only [State.nodeInService, Bool.and_eq_true, State.takeOutcome_keeps, State.takeOutcome_node] at hm ⊢
  split at hm
  · subst ‹n = m›
    exact ⟨hm.1, Supervision.inService_of_missed hm.2⟩
  · exact hm

/-! ## The control-loss timer at an outcome (R136) -/

theorem State.judgeControlLoss_timer (before : Nat) (s : State) :
    (s.judgeControlLoss before).order.controlLoss =
      if before = 0 ∧ 0 < s.inService then none
      else if 0 < before ∧ s.inService = 0 ∧ s.running then startTimer s.now s.tables.blend.controlLoss
      else s.order.controlLoss := by
  unfold State.judgeControlLoss
  repeat' split
  all_goals rfl

/-- Nodes in service are counted by the tables and the supervision records alone. -/
theorem State.inService_congr {s t : State} (ht : t.tables = s.tables) (hn : t.order.nodes = s.order.nodes) :
    t.inService = s.inService := by
  simp only [State.inService, State.nodeInService, State.node, ht, hn]

theorem State.judgeControlLoss_inService (before : Nat) (s : State) : (s.judgeControlLoss before).inService = s.inService := by
  refine State.inService_congr (by simp) ?_
  unfold State.judgeControlLoss
  repeat' split
  all_goals rfl

/-- An outcome stops the timer when it brings the first node into service, starts it in RUN when it takes the last one out, and
otherwise leaves it alone. -/
theorem State.takeOutcome_timer (n : NodeSlot) (good : Bool) (s : State) :
    (s.takeOutcome n good).order.controlLoss =
      if s.servingNodes = 0 ∧ 0 < (s.takeOutcome n good).servingNodes then none
      else if 0 < s.servingNodes ∧ (s.takeOutcome n good).servingNodes = 0 ∧ s.agent.part = .run then
        some (s.now + BitVec.ofNat 48 (s.tables.blend.controlLoss * 1000))
      else s.order.controlLoss := by
  rw [State.takeOutcome]
  simp only [State.servingNodes_eq, State.judgeControlLoss_inService, State.judgeControlLoss_timer]
  simp [State.running, State.now, startTimer, Count.plus]

/-! ## What an outcome brings about (R133) -/

/-- The supervision record has taken an outcome; its transition has had no effect yet. -/
def State.supTaken (n : NodeSlot) (good : Bool) (s : State) : State :=
  s.onNode n fun r => { r with sup := (s.node n).sup.after s.tables.node[n] good }

/-- Beside the records and the timer, an outcome changes what its transition raises, triggers and withdraws. -/
theorem State.takeOutcome_effects {n : NodeSlot} {good : Bool} {s : State} {x y : NodeState} (hx : (s.node n).sup.state = x)
    (hy : ((s.node n).sup.after s.tables.node[n] good).state = y) :
    (s.takeOutcome n good).monitor = ((s.supTaken n good).transitionEffects n x y).monitor ∧
      (s.takeOutcome n good).recorder = ((s.supTaken n good).transitionEffects n x y).recorder ∧
      (s.takeOutcome n good).link = ((s.supTaken n good).transitionEffects n x y).link := by
  subst hx hy
  simp [State.takeOutcome, State.supTaken]

theorem State.transitionEffects_degraded (n : NodeSlot) (s : State) :
    s.transitionEffects n .active .degraded = s.raise (.nodeDegraded n) := rfl

theorem State.transitionEffects_lost (n : NodeSlot) (s : State) :
    s.transitionEffects n .degraded .lost = ((s.raise (.nodeLost n)).trigger (.nodeLost n)).withdrawNode n := rfl

theorem State.transitionEffects_unjoined (n : NodeSlot) (s : State) : s.transitionEffects n .joining .lost = s := rfl

theorem State.withdrawNode_originated (n : NodeSlot) (s : State) :
    ∀ f ∈ (s.withdrawNode n).link.portB.originated, f.origin ≠ .order n := by
  intro f hf
  have hmem : f ∈ s.link.portB.originated.filter fun x => decide (x.origin ≠ .order n) := hf
  exact of_decide_eq_true (List.mem_filter.1 hmem).2

/-- What the recorder makes of a trigger rests on the recorder, the part state, the settings and the time base (R152 to R157). -/
theorem State.trigger_recorder_congr {s t : State} (c : Cause) (hr : t.recorder = s.recorder) (ha : t.agent = s.agent)
    (ht : t.tables = s.tables) (hc : t.time = s.time) : (t.trigger c).recorder = (s.trigger c).recorder := by
  have hnow : t.now = s.now := congrArg TimeBlock.count hc
  have htakes : t.takesTrigger c = s.takesTrigger c := by simp only [State.takesTrigger, State.running, ha, ht]
  have hroom : makeRoom t.tables.recorder t.now (t.slotsAsked c) t.recorder.incidents =
      makeRoom s.tables.recorder s.now (s.slotsAsked c) s.recorder.incidents := by
    simp only [State.slotsAsked, hr, ht, hnow]
  cases hs : s.takesTrigger c with
  | false => rw [State.trigger_ignored hs, State.trigger_ignored (htakes.trans hs), hr]
  | true =>
    cases ho : s.recorder.openIncident with
    | some x =>
      rw [State.trigger_added hs ho, State.trigger_added (htakes.trans hs) (by rw [hr]; exact ho)]
      simp only [State.setRecorder_recorder, hr, ht, hnow]
    | none =>
      have ho' : t.recorder.openIncident = none := by rw [hr]; exact ho
      cases hk : makeRoom s.tables.recorder s.now (s.slotsAsked c) s.recorder.incidents with
      | some kept =>
        rw [State.trigger_opened hs ho hk, State.trigger_opened (htakes.trans hs) ho' (hroom.trans hk)]
        simp only [openIncident, openedIncident, State.setRecorder_recorder, hr, ht, hc, hnow]
      | none =>
        rw [State.trigger_refused hs ho hk, State.trigger_refused (htakes.trans hs) ho' (hroom.trans hk)]
        simp only [refuseTrigger, State.setRecorder_recorder, hr]

/-! ## The deadline of an exchange (R129) -/

theorem bump_eq_min (n : Nat) : bump 255 n = min 255 (n + 1) := by
  unfold bump
  split <;> omega

/-- The node's exchange has ended missed at its deadline; the supervision has not taken the outcome yet. -/
def State.missed (n : NodeSlot) (s : State) : State := s.onNode n (NodeRec.miss true)

/-- The supervision record that the outcome leaves. -/
def State.supMissed (n : NodeSlot) (s : State) : Supervision := (s.node n).sup.after s.tables.node[n] false

theorem exec_exchangeDeadlineExpiry {n : NodeSlot} {s : State} (hd : Timer.due (s.node n).exch.deadline s.now)
    (hw : (s.node n).exch.awaiting = true) :
    exec (.exchangeDeadlineExpiry n) s = .next ((s.missed n).takeOutcome n false) :=
  (onExpiry_due _ hd).trans (congrArg _ (State.missDeadline_awaiting hw))

section
variable (n : NodeSlot) (s : State)

theorem State.missed_get (m : NodeSlot) : (s.missed n).node m = if n = m then (s.node n).miss true else s.node m :=
  State.onNode_node ..

theorem State.missed_sup (m : NodeSlot) : ((s.missed n).node m).sup = (s.node m).sup := by
  rw [State.missed_get]
  split
  · subst ‹n = m›
    rfl
  · rfl

theorem State.missed_servingNodes : (s.missed n).servingNodes = s.servingNodes := by
  have htables : (s.missed n).tables = s.tables := rfl
  simp only [State.servingNodes, State.missed_sup, htables]

/-- The node's records once the outcome is taken. -/
theorem State.missed_outcome_node :
    ((s.missed n).takeOutcome n false).node n = { (s.node n).miss true with sup := s.supMissed n } := by
  rw [State.takeOutcome_node, if_pos rfl, State.missed_get, if_pos rfl]
  rfl

theorem State.missed_outcome_other {m : NodeSlot} (h : m ≠ n) : ((s.missed n).takeOutcome n false).node m = s.node m := by
  rw [State.takeOutcome_node, if_neg h.symm, State.missed_get, if_neg h.symm]

theorem State.missed_outcome_servingNodes : ((s.missed n).takeOutcome n false).servingNodes ≤ s.servingNodes := by
  rw [← State.missed_servingNodes n s, State.servingNodes_eq, State.servingNodes_eq]
  exact (s.missed n).inService_missed_le n

end

section
variable {n : NodeSlot} {s : State}

theorem State.missed_effects {x y : NodeState} (hx : (s.node n).sup.state = x) (hy : (s.supMissed n).state = y) :
    ((s.missed n).takeOutcome n false).monitor = (((s.missed n).supTaken n false).transitionEffects n x y).monitor ∧
      ((s.missed n).takeOutcome n false).recorder = (((s.missed n).supTaken n false).transitionEffects n x y).recorder ∧
      ((s.missed n).takeOutcome n false).link = (((s.missed n).supTaken n false).transitionEffects n x y).link := by
  have hsup := State.missed_sup n s n
  exact State.takeOutcome_effects (s := s.missed n) (hsup ▸ hx) (hsup ▸ hy)

/-- ACTIVE falls to DEGRADED at the degrade count, and NODE_DEGRADED is raised. -/
theorem State.missed_degraded (hx : (s.node n).sup.state = .active) (hrun : s.tables.node[n].degrade ≤ (s.supMissed n).missRun) :
    (s.supMissed n).state = .degraded ∧ ((s.missed n).takeOutcome n false).isPending (.nodeDegraded n) = true := by
  have hy : (s.supMissed n).state = .degraded := Supervision.missed_degraded hx hrun
  obtain ⟨hmonitor, -, -⟩ := State.missed_effects hx hy
  rw [State.transitionEffects_degraded] at hmonitor
  exact ⟨hy, State.isPending_of_events (State.isPending_raised (.nodeDegraded n) _) (congrArg _ hmonitor)⟩

/-- DEGRADED falls to LOST at the lost count: NODE_LOST is raised, its trigger given, and the waiting orders are withdrawn. -/
theorem State.missed_lost (hx : (s.node n).sup.state = .degraded) (hrun : s.tables.node[n].lost ≤ (s.supMissed n).missRun) :
    (s.supMissed n).state = .lost ∧ ((s.missed n).takeOutcome n false).isPending (.nodeLost n) = true ∧
      (∀ f ∈ ((s.missed n).takeOutcome n false).link.portB.originated, f.origin ≠ .order n) ∧
      ((s.missed n).takeOutcome n false).recorder = (s.trigger (.nodeLost n)).recorder := by
  have hy : (s.supMissed n).state = .lost := Supervision.missed_lost hx hrun
  obtain ⟨hmonitor, hrecorder, hlink⟩ := State.missed_effects hx hy
  rw [State.transitionEffects_lost] at hmonitor hrecorder hlink
  have hpending := State.isPending_trigger (.nodeLost n) (State.isPending_raised (.nodeLost n) ((s.missed n).supTaken n false))
  refine ⟨hy, State.isPending_of_events hpending (congrArg _ hmonitor), ?_, hrecorder.trans (State.trigger_recorder_congr _ ?_ ?_ ?_ ?_)⟩
  · rw [hlink]
    exact State.withdrawNode_originated n _
  all_goals simp [State.supTaken, State.missed]

/-- JOINING falls to LOST without an event, a trigger or a withdrawal. -/
theorem State.missed_unjoined (hx : (s.node n).sup.state = .joining) :
    (s.supMissed n).state = .lost ∧ ((s.missed n).takeOutcome n false).monitor = s.monitor ∧
      ((s.missed n).takeOutcome n false).recorder = s.recorder ∧ ((s.missed n).takeOutcome n false).link = s.link := by
  have hy : (s.supMissed n).state = .lost := Supervision.missed_unjoined hx
  have heffects := State.missed_effects hx hy
  rw [State.transitionEffects_unjoined] at heffects
  exact ⟨hy, heffects⟩

end

/-- A missed outcome starts the control-loss timer or leaves it alone. -/
theorem State.missed_timer (n : NodeSlot) (s : State) :
    ((s.missed n).takeOutcome n false).order.controlLoss =
      if 0 < s.servingNodes ∧ ((s.missed n).takeOutcome n false).servingNodes = 0 ∧ s.agent.part = .run then
        some (s.now + BitVec.ofNat 48 (s.tables.blend.controlLoss * 1000))
      else s.order.controlLoss := by
  have hle := s.missed_outcome_servingNodes n
  rw [State.takeOutcome_timer, State.missed_servingNodes, if_neg (by omega)]
  rfl

/-- Settles O34: the records, the effects of the transition, and the timer. -/
theorem deadlineEndsTheExchangeMissed : Obligations.DeadlineEndsTheExchangeMissed := by
  refine fun n s => ⟨fun hd => onExpiry_waiting _ hd, fun hd hw => exec_exchangeDeadlineExpiry hd hw, fun hd hw => ?_⟩
  refine ⟨_, exec_exchangeDeadlineExpiry hd hw, ?_⟩
  beta_reduce
  rw [State.missed_outcome_node]
  refine ⟨rfl, rfl, bump_eq_min _, rfl, State.missed_degraded, State.missed_lost, State.missed_unjoined, fun hr h0 h1 => ?_,
    fun h => ?_, rfl, rfl, fun m hm => s.missed_outcome_other n hm, ?_⟩
  · rw [State.missed_timer, if_pos ⟨h0, h1, hr⟩]
  · rw [State.missed_timer, if_neg]
    rintro ⟨h0, h1, hr⟩
    rcases h with h | h | h
    · exact h hr
    · omega
    · omega
  · simp [State.missed]

end Sys2Proof.Machine

/-! Control loss: the entry into FAILSAFE, and the part at rest after it (R103, R136, R137, R174). -/

namespace Sys2Proof.Machine

/-! ## The part after a departure from RUN -/

/-- The part in its new state, every block but the order unit at its value for leaving RUN. -/
def State.leaving (p : PartState) (s : State) : State :=
  { s with
    agent := { s.agent with part := p, controlValid := false }
    demand := s.demand.leaveRun
    blend := s.blend.leaveRun
    slide := SlideBlock.powerOn
    recorder := s.recorder.leaveRun s.now }

theorem State.leaveRun_eq (p : PartState) (s : State) : s.leaveRun p = (s.leaving p).releaseControl := rfl

theorem State.leaving_node (p : PartState) (s : State) (m : NodeSlot) : (s.leaving p).node m = s.node m := rfl

theorem State.leaveRun_blocks (p : PartState) (s : State) :
    (s.leaveRun p).agent = { s.agent with part := p, controlValid := false } ∧ (s.leaveRun p).demand = s.demand.leaveRun ∧
      (s.leaveRun p).blend = s.blend.leaveRun ∧ (s.leaveRun p).slide = SlideBlock.powerOn ∧
      (s.leaveRun p).recorder = s.recorder.leaveRun s.now := by
  simp [State.leaveRun]

/-- Leaving RUN ends every exchange and stops the control-loss timer; supervision and feedback stand (R137). -/
theorem State.leaveRun_orders (p : PartState) (s : State) :
    (∀ m, ((s.leaveRun p).node m).exch = (s.node m).exch.ended ∧ ((s.leaveRun p).node m).sup = (s.node m).sup ∧
      ((s.leaveRun p).node m).achieved = (s.node m).achieved) ∧ (s.leaveRun p).order.controlLoss = none := by
  simpa only [State.leaveRun_eq, State.leaving_node] using (s.leaving p).releaseControl_orders

theorem State.leaveRun_originated (p : PartState) (s : State) : ∀ f ∈ ((s.leaveRun p).port .b).originated, f.isOrder = false := by
  rw [State.leaveRun_eq]
  exact (s.leaving p).releaseControl_originated

/-- An incident that was OPEN is closed by a departure from RUN (R158). -/
theorem RecorderBlock.leaveRun_closed (r : RecorderBlock) (now : Count) : ∀ x ∈ (r.leaveRun now).incidents, x.state ≠ .opened := by
  intro x hx
  obtain ⟨y, -, rfl⟩ := List.mem_map.1 hx
  split
  · simp [Incident.cut]
  · assumption

theorem State.leaveRun_atRest (p : PartState) (s : State) : (s.leaveRun p).AtRest := by
  obtain ⟨-, hdemand, hblend, hslide, hrecorder⟩ := s.leaveRun_blocks p
  obtain ⟨hnodes, hcontrol⟩ := s.leaveRun_orders p
  refine ⟨?_, fun i => ?_, fun t => ?_, fun d => ?_, fun i => ?_, fun t => ?_, fun m => ?_, hcontrol, ?_⟩
  · rw [hblend]; rfl
  · rw [hblend]; exact vec6_get _ i
  · rw [hblend]; exact vec2_get _ t
  · rw [hdemand, DemandBlock.leaveRun_source]
  · have hstart : SlideBlock.powerOn.axles[i] = AxleSlide.powerOn := vec6_get _ i
    rw [hslide, hstart]
    rfl
  · rw [hslide]; exact vec2_get _ t
  · rw [(hnodes m).1]
    exact ⟨rfl, rfl⟩
  · rw [hrecorder]
    exact s.recorder.leaveRun_closed s.now

/-- Rest is a matter of the blocks that run in RUN. -/
theorem State.AtRest.of_blocks {s t : State} (hs : s.AtRest) (hb : t.blend = s.blend := by simp) (hd : t.demand = s.demand := by simp)
    (hl : t.slide = s.slide := by simp) (ho : t.order = s.order := by simp) (hr : t.recorder = s.recorder := by simp) : t.AtRest where
  epochTimer := hb ▸ hs.epochTimer
  axles := hb ▸ hs.axles
  trucks := hb ▸ hs.trucks
  lossTimers := hd ▸ hs.lossTimers
  slide := hl ▸ hs.slide
  relief := hl ▸ hs.relief
  exchanges n := by rw [State.node_congr ho n]; exact hs.exchanges n
  controlLoss := ho ▸ hs.controlLoss
  incidents := hr ▸ hs.incidents

/-! ## Notices among the originated frames -/

/-- Of originated frames a raise adds no more than its notice (R147). -/
theorem State.raise_originated (s : State) (e : EventId) (q : Port) (f : OrigFrame)
    (hf : f ∈ ((s.raise e).port q).originated) : f ∈ (s.port q).originated ∨ f.origin = .notice := by
  unfold State.raise at hf
  split at hf
  · exact .inl hf
  · have hnotice : f ∈ ((s.sendNotice e).port q).originated := hf
    unfold State.sendNotice State.offer at hnotice
    repeat' split at hnotice
    · exact .inl hnotice
    · exact State.accept_originated _ _ _ _ _ _ _ f hnotice
    · exact .inl hnotice

/-! ## The entry into FAILSAFE (R174) -/

/-- The part has left RUN for FAILSAFE; FAILSAFE_ENTERED is not raised yet. -/
def State.failed (c : FailsafeCause) (entry : Nat) (s : State) : State :=
  State.leaveRun .failsafe (State.setCause c entry (s.trigger .failsafeEntry))

theorem State.enterFailsafe_run {s : State} (c : FailsafeCause) (entry : Nat) (h : s.agent.part = .run) :
    s.enterFailsafe c entry = (s.failed c entry).raise .failsafeEntered :=
  if_pos (by simp [State.running, h])

theorem State.enterFailsafe_agent {s : State} (c : FailsafeCause) (entry : Nat) (h : s.agent.part = .run) :
    (s.enterFailsafe c entry).agent = { s.agent with part := .failsafe, controlValid := false, cause := c, causeEntry := entry } := by
  have hagent : (State.setCause c entry (s.trigger .failsafeEntry)).agent = { s.agent with cause := c, causeEntry := entry } := by
    simp [State.setCause]
  have hraise : ((s.failed c entry).raise .failsafeEntered).agent = (s.failed c entry).agent := by simp
  rw [State.enterFailsafe_run c entry h, hraise, State.failed, (State.leaveRun_blocks ..).1, hagent]

theorem State.enterFailsafe_atRest {s : State} (c : FailsafeCause) (entry : Nat) (h : s.agent.part = .run) :
    (s.enterFailsafe c entry).AtRest := by
  rw [State.enterFailsafe_run c entry h]
  exact State.AtRest.of_blocks (s := s.failed c entry) (State.leaveRun_atRest ..)

theorem State.enterFailsafe_originated {s : State} (c : FailsafeCause) (entry : Nat) (h : s.agent.part = .run) :
    ∀ f ∈ ((s.enterFailsafe c entry).port .b).originated, f.isOrder = false := by
  intro f hf
  rw [State.enterFailsafe_run c entry h] at hf
  rcases State.raise_originated _ _ _ f hf with hf | hf
  · exact State.leaveRun_originated .failsafe _ f hf
  · rw [OrigFrame.isOrder, hf]

/-- Supervision and feedback of every node stand (R137). -/
theorem State.enterFailsafe_node {s : State} (c : FailsafeCause) (entry : Nat) (h : s.agent.part = .run) (n : NodeSlot) :
    ((s.enterFailsafe c entry).node n).sup = (s.node n).sup ∧ ((s.enterFailsafe c entry).node n).achieved = (s.node n).achieved := by
  have hraise : ((s.failed c entry).raise .failsafeEntered).node n = (s.failed c entry).node n := State.node_congr (by simp) n
  have htrigger : (State.setCause c entry (s.trigger .failsafeEntry)).node n = s.node n := State.node_congr (by simp) n
  obtain ⟨-, hsup, hachieved⟩ := (State.leaveRun_orders .failsafe (State.setCause c entry (s.trigger .failsafeEntry))).1 n
  rw [State.enterFailsafe_run c entry h, hraise]
  exact ⟨hsup.trans (congrArg NodeRec.sup htrigger), hachieved.trans (congrArg NodeRec.achieved htrigger)⟩

/-- Epoch number, air-fallback flag and effective demand are kept (R64, R90). -/
theorem State.enterFailsafe_kept {s : State} (c : FailsafeCause) (entry : Nat) (h : s.agent.part = .run) :
    (s.enterFailsafe c entry).blend.epoch = s.blend.epoch ∧ (s.enterFailsafe c entry).blend.fallback = s.blend.fallback ∧
      (s.enterFailsafe c entry).demand.eff = s.demand.eff := by
  rw [State.enterFailsafe_run c entry h]
  simp [State.failed, State.leaveRun_blocks, BlendBlock.leaveRun, DemandBlock.leaveRun]

/-! ## CONTROL_LOSS_EXPIRY -/

/-- The control-loss timer is stopped. -/
def State.controlLossStopped (s : State) : State := { s with order := { s.order with controlLoss := none } }

theorem exec_controlLossExpiry (s : State) :
    exec .controlLossExpiry s = onExpiry s.order.controlLoss s fun u => u.controlLossStopped.enterFailsafe .controlLost 0 := rfl

/-- Settles O37: the timer by what an outcome does to it, and its expiry by the entry into FAILSAFE. -/
theorem controlLossEntersFailsafe : Obligations.ControlLossEntersFailsafe := by
  intro s
  refine ⟨fun hd => ?_, fun hd => ?_, fun c entry => ?_, fun n good => ⟨fun h0 h1 => ?_, fun hr h0 h1 => ?_, fun h => ?_⟩,
    fun hd hr => ?_⟩
  · rw [exec_controlLossExpiry, onExpiry_waiting _ hd]
  · rw [exec_controlLossExpiry, onExpiry_due _ hd]
    rfl
  · by_cases hr : s.agent.part = .run
    · exact (State.enterFailsafe_run c entry hr).trans (if_pos hr).symm
    · exact (State.enterFailsafe_outside c entry hr).trans (if_neg hr).symm
  · rw [State.takeOutcome_timer, if_pos ⟨h0, h1⟩]
  · rw [State.takeOutcome_timer, if_neg (by omega), if_pos ⟨h0, h1, hr⟩]
  · rw [State.takeOutcome_timer, if_neg (by omega), if_neg]
    rintro ⟨h0, h1, hr⟩
    rcases h with h | ⟨-, h | h⟩
    · omega
    · omega
    · exact h hr
  · have hrun : s.controlLossStopped.agent.part = .run := hr
    refine ⟨_, (exec_controlLossExpiry s).trans (onExpiry_due _ hd), State.enterFailsafe_agent _ _ hrun,
      State.enterFailsafe_atRest _ _ hrun, ?_, State.enterFailsafe_originated _ _ hrun,
      fun n => State.enterFailsafe_node _ _ hrun n, ?_⟩
    · rw [State.enterFailsafe_run _ _ hrun]
      exact State.isPending_raised ..
    · obtain ⟨hepoch, hfallback, heff⟩ := State.enterFailsafe_kept .controlLost 0 hrun
      refine ⟨hepoch, hfallback, heff, ?_, ?_, ?_⟩
      all_goals simp [State.controlLossStopped]

end Sys2Proof.Machine

/-! The incident line: its edges, its debounce, and the trigger it gives (R152, R164). -/

namespace Sys2Proof.Machine

/-! ## A trigger with no incident OPEN -/

theorem RecorderBlock.openIncident_none {r : RecorderBlock} (h : ∀ x ∈ r.incidents, x.state ≠ .opened) : r.openIncident = none :=
  List.find?_eq_none.2 fun x hx => by simpa using h x hx

/-- A store with slots and a directory entry free takes an incident as it stands (R153). -/
theorem makeRoom_of_space {set : RecorderSet} {now : Count} {need : Nat} {xs : List Incident} (hslots : need ≤ freeSlots xs)
    (hentries : xs.length < 16) : makeRoom set now need xs = some xs := by
  simp [makeRoom, hasSpace, hslots, hentries]

/-! ## The line's debounce -/

/-- The debounce timer is stopped. -/
def State.debounced (s : State) : State := { s with recorder := { s.recorder with debounce := none } }

theorem exec_lineDebounceExpiry (s : State) :
    exec .lineDebounceExpiry s = onExpiry s.recorder.debounce s fun u => u.debounced.trigger .incidentLine := rfl

theorem exec_lineDebounceExpiry_due {s : State} (h : Timer.due s.recorder.debounce s.now) :
    exec .lineDebounceExpiry s = .next (s.debounced.trigger .incidentLine) :=
  (exec_lineDebounceExpiry s).trans (onExpiry_due _ h)

/-- The recorder takes the line's trigger in RUN, when the cause mask has it (Table 10-2). -/
theorem State.takesTrigger_incidentLine (s : State) :
    s.takesTrigger .incidentLine = decide (s.agent.part = .run ∧ s.tables.recorder.causeMask / 32 % 2 = 1) := by
  rw [Bool.decide_and]
  rfl

/-- Settles O48: the edges by the kept level, and the expiry by what becomes of the trigger. -/
theorem incidentLineGivesItsTrigger : Obligations.IncidentLineGivesItsTrigger := by
  intro s
  have takes := s.debounced.takesTrigger_incidentLine
  refine ⟨fun h => ?_, fun h => ?_, fun h => ?_, fun h => ?_, fun h => ?_, exec_lineDebounceExpiry_due, fun h hoff => ?_,
    fun h hr hmask hclosed hslots hentries => ?_⟩
  · exact congrArg Host.Outcome.next (if_neg (by simp [h]))
  · exact congrArg Host.Outcome.next (if_pos h)
  · exact congrArg Host.Outcome.next (if_pos h)
  · exact congrArg Host.Outcome.next (if_neg (by simp [h]))
  · rw [exec_lineDebounceExpiry, onExpiry_waiting _ h]
  · have hignored : s.debounced.takesTrigger .incidentLine = false := by
      rw [takes, decide_eq_false_iff_not]
      rintro ⟨hr, hm⟩
      have hm0 : s.tables.recorder.causeMask / 32 % 2 = 1 := hm
      rcases hoff with hoff | hoff
      · exact hoff hr
      · omega
    rw [exec_lineDebounceExpiry_due h, State.trigger_ignored hignored]
    rfl
  · have htaken : s.debounced.takesTrigger .incidentLine = true := takes.trans (decide_eq_true ⟨hr, hmask⟩)
    have hopened : s.debounced.trigger .incidentLine = openIncident s.debounced .incidentLine s.recorder.incidents :=
      State.trigger_opened htaken (RecorderBlock.openIncident_none hclosed) (makeRoom_of_space hslots hentries)
    rw [Carried, exec_lineDebounceExpiry_due h, hopened]
    exact ⟨_, rfl, rfl, rfl, rfl, rfl, rfl, rfl, rfl⟩

end Sys2Proof.Machine

/-! The reference speed record at a frame update (R47 to R49). -/

namespace Sys2Proof.Machine

/-! ## The value within its allowances (R48) -/

/-- The candidate, held back where it lies farther from the old value than an allowance. -/
theorem boundedValue_eq {old candidate : Nat} (set : SpeedSet) (us : Nat) (hold : old ≤ 20000) (hc : candidate ≤ 20000) :
    boundedValue set old candidate us =
      if candidate + allowance set.decelLimit us < old then old - allowance set.decelLimit us
      else if old + allowance set.accelLimit us < candidate then old + allowance set.accelLimit us
      else candidate := by
  unfold boundedValue
  split_ifs <;> omega

/-- The value moves by no more than its allowances, and reaches a candidate within them. -/
theorem boundedValue_bounds {old candidate : Nat} (set : SpeedSet) (us : Nat) (hold : old ≤ 20000) (hc : candidate ≤ 20000) :
    boundedValue set old candidate us ≤ 20000 ∧ old ≤ boundedValue set old candidate us + allowance set.decelLimit us ∧
      boundedValue set old candidate us ≤ old + allowance set.accelLimit us ∧
      (old ≤ candidate + allowance set.decelLimit us → candidate ≤ old + allowance set.accelLimit us →
        boundedValue set old candidate us = candidate) := by
  rw [boundedValue_eq set us hold hc]
  split_ifs <;> omega

/-! ## A frame update (R47 to R49) -/

section
variable {r : RefRecord} (set : SpeedSet) (candidate : Nat) (stamp : Count)

theorem RefRecord.update_invalid (h : r.state = .invalid) :
    r.update set candidate stamp = { r with value := candidate, state := .valid, estimate := 0, lastUpdate := stamp } := by
  simp [RefRecord.update, h]

/-- The record after a bounded update, which VALID and HELD share. -/
def RefRecord.bounded (r : RefRecord) : RefRecord :=
  let dt := elapsed r.lastUpdate stamp
  let new := boundedValue set r.value candidate dt.toNat
  { value := new, state := .valid, estimate := nextEstimate r.estimate r.value new dt.toNat
    lastUpdate := if dt < 0 then r.lastUpdate else stamp
    holdTimer := if r.state = .held then none else r.holdTimer }

theorem RefRecord.update_bounded (h : r.state ≠ .invalid) : r.update set candidate stamp = r.bounded set candidate stamp := by
  cases hr : r.state
  case invalid => exact absurd hr h
  all_goals simp [RefRecord.update, RefRecord.bounded, hr]

end

/-- Settles O18: from INVALID the record is set, and from VALID or HELD it makes a bounded update. -/
theorem referenceMovesWithinItsAllowances : Obligations.ReferenceMovesWithinItsAllowances := by
  refine fun set r c stamp => ⟨RefRecord.update_invalid set c stamp, fun hs hold hc => ?_⟩
  rw [RefRecord.update_bounded set c stamp hs]
  obtain ⟨hmax, hfall, hrise, hreach⟩ := boundedValue_bounds set (elapsed r.lastUpdate stamp).toNat hold hc
  exact ⟨boundedValue_eq set _ hold hc, hmax, hfall, hrise, hreach, rfl, rfl, rfl, fun h => if_pos h, fun h => if_neg (Int.not_lt.2 h)⟩

end Sys2Proof.Machine

/-! A good entry handed on to the slide controller and the condition monitor (R45, R107 to R116). -/

namespace Sys2Proof.Machine

/-! ## The rule of each slide state (R110 to R115) -/

section
variable {set : SlideSet} {axleLimit ref y : Nat} {now : Count} {g : GoodEntry} {a : AxleSlide}

theorem onsetMet_iff : onsetMet set ref g = true ↔
    set.slipOnset ≤ slipPerMille ref g.speed ∨ set.absoluteOnset ≤ slipOf ref g.speed ∨ (set.decelOnset : Int) ≤ g.decel := by
  simp [onsetMet, or_assoc]

/-- What becomes of an adhesion ceiling in NORMAL (R112). -/
def recoveredCeiling (set : SlideSet) (axleLimit ref : Nat) (g : GoodEntry) (a : AxleSlide) : Option Nat :=
  if slipPerMille ref g.speed ≤ set.slipRelease then
    match a.ceiling with
    | none => none
    | some c => raisedCeiling axleLimit (grown set.recoveryRate g.gap) c
  else a.ceiling

theorem recoveredCeiling_eq : recoveredCeiling set axleLimit ref g a =
    if slipPerMille ref g.speed ≤ set.slipRelease then a.ceiling.bind (raisedCeiling axleLimit (grown set.recoveryRate g.gap))
    else a.ceiling := by
  unfold recoveredCeiling
  cases a.ceiling <;> rfl

theorem evalNormal_enters (ho : onsetMet set ref g = true) (hn : set.onsetCount ≤ a.onset + 1) :
    evalNormal set axleLimit ref y g a =
      { a with
        state := .relief, onset := 0, ceiling := some (lowerCeiling a.ceiling (scaled y set.ceilingFactor)), cycles := 1
        limit := some (min (scaled y set.reliefFactor) (lowerCeiling a.ceiling (scaled y set.ceilingFactor))) } := by
  simp [evalNormal, ho, hn]

theorem evalNormal_counts (ho : onsetMet set ref g = true) (hn : a.onset + 1 < set.onsetCount) :
    evalNormal set axleLimit ref y g a =
      { a with onset := a.onset + 1, ceiling := recoveredCeiling set axleLimit ref g a } := by
  simp [evalNormal, ho, Nat.not_le.2 hn, recoveredCeiling_eq]

theorem evalNormal_calm (ho : ¬ onsetMet set ref g = true) :
    evalNormal set axleLimit ref y g a = { a with onset := 0, ceiling := recoveredCeiling set axleLimit ref g a } := by
  simp [evalNormal, ho, recoveredCeiling_eq]

theorem evalRelief_turn (ht : g.turn = true) : evalRelief set now ref g a = a.toHold set now := if_pos ht

theorem evalRelief_deepens (ht : g.turn = false) (ho : onsetMet set ref g = true) (hg : g.trend ≠ .accel) :
    evalRelief set now ref g a = { a with limit := deepened set a } := by
  simp [evalRelief, ht, ho, hg]

theorem evalRelief_waits (ht : g.turn = false) (hn : ¬ (onsetMet set ref g = true ∧ g.trend ≠ .accel)) :
    evalRelief set now ref g a = if slipPerMille ref g.speed ≤ set.slipRelease then a.toHold set now else a := by
  simp only [evalRelief, ht, if_neg hn, Bool.false_eq_true, if_false]

theorem evalHold_onset (ho : onsetMet set ref g = true) :
    evalHold set ref g a =
      { a with state := .relief, limit := deepened set a, cycles := countCycle a, holdTimer := none } := if_pos ho

theorem evalHold_calm (ho : ¬ onsetMet set ref g = true) : evalHold set ref g a = a := if_neg ho

section
variable {l c : Nat} (hl : a.limit = some l)
include hl

theorem evalReapply_onset (ho : onsetMet set ref g = true) :
    evalReapply set ref y g a =
      { a with
        state := .relief, ceiling := some (lowerCeiling a.ceiling (scaled y set.ceilingFactor)), cycles := countCycle a
        limit := some (min (scaled (min l y) set.reliefFactor) (lowerCeiling a.ceiling (scaled y set.ceilingFactor))) } := by
  simp [evalReapply, ho, hl]

theorem evalReapply_reaches (hc : a.ceiling = some c) (ho : ¬ onsetMet set ref g = true) (h : c ≤ l + grown set.reapplyRate g.gap) :
    evalReapply set ref y g a = { a with state := .normal, limit := none, cycles := 0 } := by
  simp [evalReapply, ho, hl, hc, h]

theorem evalReapply_raises (hc : a.ceiling = some c) (ho : ¬ onsetMet set ref g = true) (h : l + grown set.reapplyRate g.gap < c) :
    evalReapply set ref y g a = { a with limit := some (l + grown set.reapplyRate g.gap) } := by
  simp [evalReapply, ho, hl, hc, Nat.not_le.2 h]

end

end

/-! ## The evaluation (R108) -/

section
variable {g : GoodEntry} {s : State}

theorem State.evaluationActive_iff {i : AxleSlot} : s.evaluationActive i = true ↔
    s.agent.part = .run ∧ s.speed.ref.state = .valid ∧ s.tables.slide.minSpeed ≤ s.speed.ref.value ∧
      s.speed.axles[i].validity = .valid := by
  simp [State.evaluationActive, State.running, and_assoc]

theorem State.evaluated_inactive (h : ¬ s.evaluationActive g.axle = true) : s.evaluated g = s.slide.axles[g.axle].rest := if_neg h

section
variable (h : s.evaluationActive g.axle = true)
include h

theorem State.evaluated_normal (hs : s.slide.axles[g.axle].state = .normal) :
    s.evaluated g = evalNormal s.tables.slide s.tables.blend.axleLimit s.speed.ref.value s.blend.axles[g.axle].output g
      s.slide.axles[g.axle] := by
  simp only [State.evaluated, evalActive, h, hs, if_true]

theorem State.evaluated_relief (hs : s.slide.axles[g.axle].state = .relief) :
    s.evaluated g = evalRelief s.tables.slide s.now s.speed.ref.value g s.slide.axles[g.axle] := by
  simp only [State.evaluated, evalActive, h, hs, if_true]

theorem State.evaluated_hold (hs : s.slide.axles[g.axle].state = .hold) :
    s.evaluated g = evalHold s.tables.slide s.speed.ref.value g s.slide.axles[g.axle] := by
  simp only [State.evaluated, evalActive, h, hs, if_true]

theorem State.evaluated_reapply (hs : s.slide.axles[g.axle].state = .reapply) :
    s.evaluated g = evalReapply s.tables.slide s.speed.ref.value s.blend.axles[g.axle].output g s.slide.axles[g.axle] := by
  simp only [State.evaluated, evalActive, h, hs, if_true]

end

/-- An entry into RELIEF at the cycle limit raises SLIDE_PERSISTENT and gives its trigger (R116). -/
theorem State.evaluateSlide_eq : s.evaluateSlide g =
    if s.slide.axles[g.axle].state ≠ .relief ∧ (s.evaluated g).state = .relief ∧
        (s.evaluated g).cycles = s.tables.slide.cycleLimit then
      ((s.onAxleSlide g.axle fun _ => s.evaluated g).raise (.slidePersistent g.axle)).trigger (.slidePersistent g.axle)
    else s.onAxleSlide g.axle fun _ => s.evaluated g := by
  simp only [State.evaluateSlide, persists, Bool.and_eq_true, decide_eq_true_eq, beq_iff_eq, and_assoc]

end

/-! ## The monitor's pass over the slip (R45, R107) -/

theorem mem_monitorEntries (m : Fin 8) : m ∈ monitorEntries := by
  revert m
  decide

theorem State.watches_slip_iff (s t : State) (g : GoodEntry) : s.watches (t.slipUpdates g) = true ↔
    ∃ m : Fin 8, s.tables.monitor[m].enabled = true ∧ s.tables.monitor[m].source = .axleSlip g.axle := by
  have hvalue (x : MonSource) : (Updates.value (t.slipUpdates g) x).isSome = true ↔ x = .axleSlip g.axle := by
    simp [State.slipUpdates, Updates.value, eq_comm (a := x)]
  simp only [State.watches, List.any_eq_true, mem_monitorEntries, true_and, Bool.and_eq_true, hvalue]

section
variable {s : State} {u : Updates} (f : State → State)

/-- Without a pass the other block alone reacts. -/
theorem State.withMonitor_alone (h : s.agent.part ≠ .run ∨ ¬ s.watches u = true) : s.withMonitor u f = f s := by
  rcases h with h | h
  · exact State.withMonitor_outside u f h
  · simp [State.withMonitor, h]

/-- With a pass the two react in one of their two orders. -/
theorem State.withMonitor_either (hr : s.agent.part = .run) (hw : s.watches u = true) :
    s.withMonitor u f = (f s.drawn).monitorPass u ∨ s.withMonitor u f = f (s.drawn.monitorPass u) := by
  have hfree : s.withMonitor u f = flipRun (Config.freeFlip s.draws) f (State.monitorPass u) s.drawn :=
    if_pos (by simp [State.running, hr, hw])
  rw [hfree]
  cases Config.freeFlip s.draws
  · exact .inr rfl
  · exact .inl rfl

end

/-- Settles O32: the evaluation state by state, and the pass by what the monitor watches. -/
theorem slideEvaluationFollowsTheCycle : Obligations.SlideEvaluationFollowsTheCycle := by
  intro g s
  have hactive := State.evaluationActive_iff (s := s) (i := g.axle)
  have honset := onsetMet_iff (set := s.tables.slide) (ref := s.speed.ref.value) (g := g)
  have hcycles : countCycle s.slide.axles[g.axle] = min 255 (s.slide.axles[g.axle].cycles + 1) := bump_eq_min _
  refine ⟨rfl, fun hx => ?_, fun hx hs ho hn => ?_, fun hx hs ho hn => ?_, fun hx hs ho => ?_, fun hx hs ht => ?_,
    fun hx hs ht ho hg => ?_, fun hx hs ht hn => ?_, fun hx hs ho => ?_, fun hx hs ho => ?_,
    fun l c hx hs hl hc => ⟨fun ho => ?_, fun ho h => ?_, fun ho h => ?_⟩, State.evaluateSlide_eq, fun h => ?_, fun hr hw => ?_⟩
  · exact State.evaluated_inactive (mt hactive.1 hx)
  · exact (State.evaluated_normal (hactive.2 hx) hs).trans (evalNormal_enters (honset.2 ho) hn)
  · exact (State.evaluated_normal (hactive.2 hx) hs).trans (evalNormal_counts (honset.2 ho) hn)
  · exact (State.evaluated_normal (hactive.2 hx) hs).trans (evalNormal_calm (mt honset.1 ho))
  · exact (State.evaluated_relief (hactive.2 hx) hs).trans (evalRelief_turn ht)
  · exact (State.evaluated_relief (hactive.2 hx) hs).trans (evalRelief_deepens ht (honset.2 ho) hg)
  · exact (State.evaluated_relief (hactive.2 hx) hs).trans
      (evalRelief_waits ht fun h => hn ⟨honset.1 h.1, h.2⟩)
  · rw [← hcycles]
    exact (State.evaluated_hold (hactive.2 hx) hs).trans (evalHold_onset (honset.2 ho))
  · exact (State.evaluated_hold (hactive.2 hx) hs).trans (evalHold_calm (mt honset.1 ho))
  · rw [← hcycles]
    exact (State.evaluated_reapply (hactive.2 hx) hs).trans (evalReapply_onset hl (honset.2 ho))
  · exact (State.evaluated_reapply (hactive.2 hx) hs).trans (evalReapply_reaches hl hc (mt honset.1 ho) h)
  · exact (State.evaluated_reapply (hactive.2 hx) hs).trans (evalReapply_raises hl hc (mt honset.1 ho) h)
  · exact State.withMonitor_alone _ (h.imp_right (mt (State.watches_slip_iff (s.storeSlip g) s g).1))
  · exact State.withMonitor_either _ hr ((State.watches_slip_iff (s.storeSlip g) s g).2 hw)

end Sys2Proof.Machine

/-! READ_STATUS of sections SPEED and NODES (R53, R138). -/

namespace Sys2Proof.Machine

/-! ## The request -/

section
variable {s : State} {r : Request} {rest : List Request} (h : s.asks r rest 0x05)
include h

/-- The section is the first argument byte. -/
theorem State.asks_ofSection {b : Byte} {tail : List Byte} (ha : r.args = b :: tail) : ofSection b.toNat r = true := by
  have hk : ofKind reqReadStatus r = true := State.asks_ofKind h rfl
  simp [ofSection, hk, ha, Request.arg, byteAt]

theorem exec_readStatusSpeed {tail : List Byte} (ha : r.args = 3 :: tail) :
    exec .readStatusSpeed s = .next (if tail = [] then s.replied r .ok s.speedData else s.replied r .badRequest []) := by
  refine congrArg Host.Outcome.next ?_
  split
  · exact serve_answer h.1 (State.asks_ofSection h ha) (if_neg (by simp [*]))
  · exact serve_refuse h.1 (State.asks_ofSection h ha) (if_pos (by simp [*]))

theorem exec_readStatusNodes_length {tail : List Byte} (ha : r.args = 1 :: tail) (hl : tail.length ≠ 1) :
    exec .readStatusNodes s = .next (s.replied r .badRequest []) :=
  congrArg Host.Outcome.next (serve_refuse h.1 (State.asks_ofSection h ha) (if_pos (by simpa [ha] using hl)))

theorem exec_readStatusNodes_badIndex {b : Byte} (ha : r.args = [1, b]) (hb : 8 ≤ b.toNat) :
    exec .readStatusNodes s = .next (s.replied r .badIndex []) := by
  have hslot : ¬ r.arg 1 < 8 := by simpa [Request.arg, byteAt, ha] using hb
  exact congrArg Host.Outcome.next (serve_refuse h.1 (State.asks_ofSection h ha) (by simp [answerReadStatusNodes, ha, hslot]))

theorem exec_readStatusNodes_slot {n : NodeSlot} (ha : r.args = [1, BitVec.ofNat 8 n.val]) :
    exec .readStatusNodes s = .next (s.replied r .ok (s.nodeData n)) := by
  have hslot : r.arg 1 = n.val := by
    simp only [Request.arg, byteAt, ha, List.getD_cons_succ, List.getD_cons_zero, BitVec.toNat_ofNat]
    omega
  exact congrArg Host.Outcome.next (serve_answer h.1 (State.asks_ofSection h ha) (by simp [answerReadStatusNodes, ha, hslot]))

end

/-! ## The data -/

theorem perAxle_eq (f : AxleSlot → List Byte) : perAxle f = axleSlots.flatMap f := by
  simp [perAxle, axleSlots]

theorem RefRecord.bytes_eq (r : RefRecord) : r.bytes = toBytes 2 r.value ++ [r.state.code] ++ toSigned2 r.estimate := rfl

theorem State.speedData_eq (s : State) :
    s.speedData = (axleSlots.flatMap fun i => s.speed.axles[i].bytes) ++ toBytes 2 s.speed.ref.value ++
      [s.speed.ref.state.code] ++ toSigned2 s.speed.ref.estimate := by
  rw [State.speedData, perAxle_eq, RefRecord.bytes_eq]
  simp only [List.append_assoc]

/-- An optional value is sent as 1 and the value, an absent one as three zeros (R138). -/
theorem presence2_eq (v : Option Nat) : presence2 v = (match v with | none => [0, 0, 0] | some x => 1 :: toBytes 2 x) := by
  cases v <;> rfl

theorem flag_isSome {α : Type} (o : Option α) [Decidable (o = none)] : flag o.isSome = if o = none then 0 else 1 := by
  cases o <;> simp [flag]

/-- The nodes in service, judged as R136 words it. -/
theorem State.inService_eq (s : State) : s.inService = nodeSlots.countP fun m => decide (s.serves m) := by
  simp only [State.inService, State.nodeInService, NodeState.inService_eq, State.serves, Bool.decide_and, Bool.decide_or,
    Bool.decide_eq_true]
  rfl

/-- The nine counts of a node, in the order in which they are sent (R138). -/
def NodeCounts.list (c : NodeCounts) : List Counter :=
  [c.issued, c.good, c.bad, c.missed, c.abandoned, c.stray, c.late, c.notSent, c.releasesNotSent]

theorem State.nodeData_eq (s : State) (n : NodeSlot) : s.nodeData n =
    [flag s.tables.node[n].present, (s.node n).sup.state.code, flag (s.node n).exch.awaiting, (s.node n).exch.tag,
        (s.node n).exch.control.code] ++
      toBytes 2 (s.node n).exch.value ++ [code (s.node n).sup.goodRun, code (s.node n).sup.missRun] ++
      presence2 (s.node n).achieved ++ presence2 (s.node n).cap ++ toBytes 4 (s.node n).exch.replyTime ++
      (s.node n).counts.list.flatMap counterBytes ++ [flag s.order.controlLoss.isSome, code s.inService] := by
  simp [State.nodeData, NodeCounts.list]

theorem State.nodeData_length (s : State) (n : NodeSlot) : (s.nodeData n).length = 57 := by
  simp [State.nodeData_eq, NodeCounts.list, presence2, counterBytes]

/-- Settles O21: the checks of each section, and its data field by field. -/
theorem speedAndNodeStatus : Obligations.SpeedAndNodeStatus := by
  refine fun s r rest h => ⟨fun tail ha => ?_, fun tail ha hl => exec_readStatusNodes_length h ha hl,
    fun b ha hb => exec_readStatusNodes_badIndex h ha hb, fun n ha => ?_⟩
  · rw [exec_readStatusSpeed h ha, State.speedData_eq]
    rfl
  · have hanswer := exec_readStatusNodes_slot h ha
    have hlength := s.nodeData_length n
    rw [State.nodeData_eq, presence2_eq (s.node n).achieved, presence2_eq (s.node n).cap, flag_isSome, State.inService_eq]
      at hanswer hlength
    exact ⟨hanswer, hlength⟩

end Sys2Proof.Machine

/-! Sample frames and INJECT_SAMPLE: the entries judged, the frame update, and the good entries handed on (R38 to R52). -/

namespace Sys2Proof.Machine

/-! ## The entry list (R38, Table 1-5) -/

theorem rawEntries_cons (slot status n hi lo : Byte) (more : List Byte) : rawEntries (slot :: status :: n :: hi :: lo :: more) =
    { slot := slot.toNat, status := status.toNat, pulses := n.toNat, interval := hi.toNat * 256 + lo.toNat } :: rawEntries more := by
  simp [rawEntries, ofBytes]

/-- Five bytes are one entry. -/
theorem rawEntries_one (i : AxleSlot) (n hi lo : Byte) :
    rawEntries [BitVec.ofNat 8 i.val, 0, n, hi, lo] = [⟨i.val, 0, n.toNat, ofBytes [hi, lo]⟩] := by
  have hslot : (BitVec.ofNat 8 i.val).toNat = i.val := by
    rw [BitVec.toNat_ofNat]
    omega
  simp [rawEntries, hslot]

theorem sampleLengthOk_iff (n : Nat) : sampleLengthOk n = true ↔ n ∈ [5, 10, 15] := by
  simp [sampleLengthOk, or_assoc]

section
variable (first last : AxleSlot) (stamp : Count) (f : Frame) (s : State)

theorem takeSample_refused (h : (framePayload f).length ∉ [5, 10, 15]) : takeSample first last stamp f s = s.countSampleRefused :=
  if_neg (mt (sampleLengthOk_iff _).1 h)

theorem takeSample_taken (h : (framePayload f).length ∈ [5, 10, 15]) :
    takeSample first last stamp f s = (takeList first last stamp (framePayload f) s).1 := if_pos ((sampleLengthOk_iff _).2 h)

end

/-! ## One entry (R39 to R44) -/

section
variable {first last : AxleSlot} {seen : List Nat} {slot : Nat}

theorem entrySlot_refused (h : slot < first.val ∨ last.val < slot ∨ slot ∈ seen) : entrySlot first last seen slot = none := by
  refine dif_neg ?_
  rintro ⟨hfirst, hlast, hseen⟩
  rcases h with h | h | h
  · omega
  · omega
  · exact hseen h

theorem entrySlot_permitted {i : AxleSlot} (h : slot = i.val) (hfirst : first ≤ i) (hlast : i ≤ last) (hseen : slot ∉ seen) :
    entrySlot first last seen slot = some i := by
  subst h
  exact dif_pos ⟨hfirst, hlast, hseen⟩

end

/-- The entry fails one of the checks 3 to 6 of Table 3-3. -/
def RawEntry.Bad (e : RawEntry) (a : AxleSpeed) (stamp : Count) : Prop :=
  a.enabled = false ∨ 1 < e.status ∨ (e.status = 0 ∧ 0 < e.pulses ∧ e.interval = 0) ∨
    (elapsed a.stamp stamp < 0 ∧ a.validity = .valid)

theorem entryPasses_iff (a : AxleSpeed) (e : RawEntry) (stamp : Count) : entryPasses a e stamp = true ↔ ¬ e.Bad a stamp := by
  simp only [entryPasses, RawEntry.Bad, Bool.and_eq_true, Bool.not_eq_true', Bool.and_eq_false_iff, decide_eq_true_eq,
    decide_eq_false_iff_not, beq_eq_false_iff_ne, not_or, not_and_or, Bool.not_eq_false, Nat.not_lt, and_assoc, ne_eq, or_assoc]

/-- An entry of an enabled axle that is not VALID, with pulses over an interval, passes the checks. -/
theorem RawEntry.not_bad_of_good {a : AxleSpeed} {stamp : Count} {slot n interval : Nat} (hen : a.enabled = true)
    (hv : a.validity ≠ .valid) (hi : interval ≠ 0) : ¬ RawEntry.Bad ⟨slot, 0, n, interval⟩ a stamp := by
  simp [RawEntry.Bad, hen, hv, hi]

theorem hasBasis_eq (ageLimit : Nat) (a : AxleSpeed) (stamp : Count) : hasBasis ageLimit a stamp =
    decide (a.validity ≠ .unknown ∧ 0 < elapsed a.stamp stamp ∧ elapsed a.stamp stamp ≤ (ageLimit * 1000 : Nat)) := by
  simp only [hasBasis, Bool.decide_and, Bool.and_assoc]

theorem entryTrend_eq (set : SpeedSet) (a : AxleSpeed) (new : Nat) (stamp : Count) : entryTrend set a new stamp =
    if hasBasis set.ageLimit a stamp = false then .flat else trendOf set.trendBand (entryDecel set a new stamp) := by
  unfold entryTrend
  cases hasBasis set.ageLimit a stamp <;> rfl

theorem isTurn_eq (basis : Bool) (trend : Trend) (last : Option Trend) :
    isTurn basis trend last = decide (basis = true ∧ trend = .accel ∧ last = some .decel) := by
  simp [isTurn, Bool.and_assoc]

theorem State.onAxleSpeed_congr {i : AxleSlot} {f g : AxleSpeed → AxleSpeed} {s : State}
    (h : f s.speed.axles[i] = g s.speed.axles[i]) : s.onAxleSpeed i f = s.onAxleSpeed i g := by
  simp only [State.onAxleSpeed, h]

/-- The state once a good entry has been taken for an axle, before the frame update (R41 to R44). -/
def State.sampled (s : State) (i : AxleSlot) (e : RawEntry) (stamp : Count) : State :=
  s.onAxleSpeed i (AxleSpeed.good s.tables.speed s.now (axleSpeedOf s.speed.axles[i].pulse e.pulses e.interval) stamp)

/-- What is handed on of it (R45). -/
def State.sampledEntry (s : State) (i : AxleSlot) (e : RawEntry) (stamp : Count) : GoodEntry :=
  goodEntry s.tables.speed i (axleSpeedOf s.speed.axles[i].pulse e.pulses e.interval) stamp s.speed.axles[i]

theorem State.sampled_axle (i j : AxleSlot) (e : RawEntry) (stamp : Count) (s : State) : (s.sampled i e stamp).speed.axles[j] =
    if i = j then s.speed.axles[i].good s.tables.speed s.now (axleSpeedOf s.speed.axles[i].pulse e.pulses e.interval) stamp
    else s.speed.axles[j] := State.onAxleSpeed_get ..

section
variable {first last : AxleSlot} {stamp : Count} {seen : List Nat} {e : RawEntry} {s : State}

theorem takeEntry_outside (h : entrySlot first last seen e.slot = none) :
    takeEntry first last stamp seen e s = (s.countSampleRefused, .refused) := by
  simp only [takeEntry, h]

variable {i : AxleSlot} (h : entrySlot first last seen e.slot = some i)
include h

theorem takeEntry_bad (hb : e.Bad s.speed.axles[i] stamp) :
    takeEntry first last stamp seen e s = (s.countSampleRefused, .refused) := by
  have hp : ¬ entryPasses s.speed.axles[i] e stamp = true := mt (entryPasses_iff _ _ _).1 (not_not_intro hb)
  simp only [takeEntry, h, if_neg hp]

variable (hb : ¬ e.Bad s.speed.axles[i] stamp)
include hb

theorem takeEntry_fault (hs : e.status = 1) : takeEntry first last stamp seen e s = (s.faultEntry i, .fault) := by
  have hp : entryPasses s.speed.axles[i] e stamp = true := (entryPasses_iff _ _ _).2 hb
  simp only [takeEntry, h, if_pos hp, if_pos hs]

theorem takeEntry_good (hs : e.status = 0) :
    takeEntry first last stamp seen e s = (s.sampled i e stamp, .good (s.sampledEntry i e stamp)) := by
  have hp : entryPasses s.speed.axles[i] e stamp = true := (entryPasses_iff _ _ _).2 hb
  have hn : e.status ≠ 1 := by omega
  simp only [takeEntry, h, if_pos hp, if_neg hn]
  rfl

end

/-! ## The frame update (R47, R50) -/

/-- The speeds of the VALID axles, in slot order. -/
def State.validSpeeds (s : State) : List Nat :=
  (axleSlots.filter fun i => s.speed.axles[i].validity = .valid).map fun i => s.speed.axles[i].speed

theorem mem_axleSlots (i : AxleSlot) : i ∈ axleSlots := by
  revert i
  decide

theorem State.validSpeeds_eq_nil_iff (s : State) : s.validSpeeds = [] ↔ ¬ s.anyValid = true := by
  simp [State.validSpeeds, State.anyValid_iff, List.filter_eq_nil_iff, mem_axleSlots]

/-- The candidate is the highest VALID speed (R47). -/
theorem State.candidate_eq {s : State} {x : Nat} (hx : x ∈ s.validSpeeds) (hmax : ∀ y ∈ s.validSpeeds, y ≤ x) : s.candidate = x := by
  have hfold : s.candidate = s.validSpeeds.foldl max 0 := by
    simp only [State.candidate, State.validSpeeds, State.axleValid, List.foldl_map, List.foldl_filter, decide_eq_true_eq, beq_iff_eq]
  rw [hfold, List.foldl_max, List.max?_eq_some_iff.2 ⟨hx, hmax⟩]
  exact Nat.zero_max x

section
variable {s : State} (stamp : Count)

theorem State.frameUpdate_candidate {x : Nat} (hx : x ∈ s.validSpeeds) (hmax : ∀ y ∈ s.validSpeeds, y ≤ x) :
    s.frameUpdate stamp = (s.setRef (s.speed.ref.update s.tables.speed x stamp)).referenceReaders := by
  have hany : s.anyValid = true := not_not.1 (mt s.validSpeeds_eq_nil_iff.2 (List.ne_nil_of_mem hx))
  rw [State.frameUpdate, if_pos hany, State.candidate_eq hx hmax]

theorem State.frameUpdate_none (h : s.validSpeeds = []) : s.frameUpdate stamp = s.holdReference.referenceReaders := by
  rw [State.frameUpdate, if_neg (s.validSpeeds_eq_nil_iff.1 h)]

end

/-! ## The good entries (R45) -/

/-- The good entry among the outcomes. -/
def Outcome5.good? : Outcome5 → Option GoodEntry
  | .good g => some g
  | .refused => none
  | .fault => none

theorem handOnAll_eq (os : List Outcome5) (s : State) : handOnAll os s = (os.filterMap Outcome5.good?).foldl State.handOn s := by
  induction os generalizing s with
  | nil => rfl
  | cons o os ih => cases o <;> exact ih _

/-- Outside RUN a good entry handed on leaves its slip, and the axle at rest (R107, R108). -/
theorem State.handOn_outside {s : State} (g : GoodEntry) (h : s.agent.part ≠ .run) :
    s.handOn g = (s.storeSlip g).restAxle g.axle := by
  have hinactive : ¬ (s.storeSlip g).evaluationActive g.axle = true := by simp [State.evaluationActive, State.running, h]
  have hrest : (s.storeSlip g).evaluated g = (s.storeSlip g).slide.axles[g.axle].rest := State.evaluated_inactive hinactive
  rw [State.handOn, State.withMonitor_outside _ _ (by simpa using h), State.evaluateSlide, hrest]
  exact if_neg (by simp [persists, AxleSlide.rest])

/-! ## A list of one good entry outside RUN -/

section
variable {first last : AxleSlot} {stamp : Count} {payload : List Byte} {e : RawEntry} {s : State} {i : AxleSlot}

/-- A VALID axle gives the update its candidate, and outside RUN nothing reacts. -/
theorem State.frameUpdate_outside (hr : s.agent.part ≠ .run) (hv : s.speed.axles[i].validity = .valid) :
    s.frameUpdate stamp = s.setRef (s.speed.ref.update s.tables.speed s.candidate stamp) := by
  rw [State.frameUpdate, if_pos (s.anyValid_iff.2 ⟨i, hv⟩)]
  exact State.referenceReaders_outside hr

/-- Outside RUN a good entry changes its axle's speed part, the reference, and its axle's slide part, and nothing else. -/
theorem takeList_good_outside (hr : s.agent.part ≠ .run) (hraw : rawEntries payload = [e])
    (hslot : entrySlot first last [] e.slot = some i) (hb : ¬ e.Bad s.speed.axles[i] stamp) (hs : e.status = 0) :
    ∃ ref : RefRecord, (takeList first last stamp payload s).1 =
      (((s.sampled i e stamp).setRef ref).storeSlip (s.sampledEntry i e stamp)).restAxle i := by
  have htaken : takeEntries first last stamp [] [e] s = (s.sampled i e stamp, [.good (s.sampledEntry i e stamp)]) :=
    congrArg (fun p => (p.1, [p.2])) (takeEntry_good hslot hb hs)
  have hvalid : (s.sampled i e stamp).speed.axles[i].validity = .valid := by
    rw [State.sampled_axle, if_pos rfl]
    rfl
  have hupdate := State.frameUpdate_outside (s := s.sampled i e stamp) (stamp := stamp) hr hvalid
  rw [takeList, hraw, htaken]
  exact ⟨_, (congrArg (State.handOn · _) hupdate).trans (State.handOn_outside _ hr)⟩

end

/-! ## INJECT_SAMPLE (R52) -/

section
variable {s : State} {r : Request} {rest : List Request} (h : s.asks r rest 0x30)
include h

theorem exec_injectSample_locked (hp : s.agent.part ≠ .config) : exec .injectSample s = .next (s.replied r .locked []) := by
  refine congrArg Host.Outcome.next (serve_refuse h.1 (State.asks_ofKind h rfl) ?_)
  cases hs : s.agent.part
  case config => exact absurd hs hp
  all_goals simp [answerInjectSample, hs]

theorem exec_injectSample_length (hp : s.agent.part = .config) (hl : r.args.length ∉ [5, 10, 15]) :
    exec .injectSample s = .next (s.replied r .badRequest []) := by
  refine congrArg Host.Outcome.next (serve_refuse h.1 (State.asks_ofKind h rfl) ?_)
  simp [answerInjectSample, hp, mt (sampleLengthOk_iff _).1 hl]

theorem exec_injectSample_taken (hp : s.agent.part = .config) (hl : r.args.length ∈ [5, 10, 15]) :
    exec .injectSample s = .next ((takeList 0 5 s.now r.args s).1.replied r .ok
      ((takeList 0 5 s.now r.args s).2.map Outcome5.code ++ (takeList 0 5 s.now r.args s).1.speed.ref.bytes)) := by
  refine congrArg Host.Outcome.next (serve_answer h.1 (State.asks_ofKind h rfl) ?_)
  simp only [answerInjectSample, hp, (sampleLengthOk_iff _).2 hl, if_true, State.injected]

/-- INJECT_SAMPLE of one good entry changes what a list of one good entry changes. -/
theorem exec_injectSample_one {i : AxleSlot} {n hi lo : Byte} (hp : s.agent.part = .config)
    (ha : r.args = [BitVec.ofNat 8 i.val, 0, n, hi, lo]) (hen : s.speed.axles[i].enabled = true)
    (hv : s.speed.axles[i].validity ≠ .valid) (h0 : ofBytes [hi, lo] ≠ 0) :
    ∃ (ref : RefRecord) (g : GoodEntry) (data : List Byte), exec .injectSample s = .next
      (((((s.sampled i ⟨i.val, 0, n.toNat, ofBytes [hi, lo]⟩ s.now).setRef ref).storeSlip g).restAxle i).replied r .ok data) := by
  have hraw : rawEntries r.args = [⟨i.val, 0, n.toNat, ofBytes [hi, lo]⟩] := ha ▸ rawEntries_one i n hi lo
  obtain ⟨ref, htaken⟩ := takeList_good_outside (first := 0) (last := 5) (stamp := s.now) (s := s) (by simp [hp]) hraw
    (entrySlot_permitted rfl (Fin.zero_le i) (Fin.le_last i) List.not_mem_nil) (RawEntry.not_bad_of_good hen hv h0) rfl
  have hnext := exec_injectSample_taken h hp (by simp [ha])
  rw [htaken] at hnext
  exact ⟨ref, _, _, hnext⟩

end

/-- Settles O20: the checks of both ways in, each entry by its slot and its checks, and the frame update by the VALID axles. -/
theorem samplesAreTaken : Obligations.SamplesAreTaken := by
  refine ⟨fun s r rest h => ⟨exec_injectSample_locked h, exec_injectSample_length h, fun hp hl => ?_,
      fun i n hi lo hp ha hen hv hn h0 => ?_⟩,
    fun first last stamp s => ⟨fun f => ⟨takeSample_refused first last stamp f s, takeSample_taken first last stamp f s⟩,
      fun payload => ?_, rfl, rawEntries_cons, fun seen => rfl, fun seen e more => rfl, fun seen e => ⟨fun ho => ?_,
        fun i he hfirst hlast hseen => ⟨fun hb => ?_, fun hb hs => ?_, fun hb hs => ?_⟩⟩,
      ⟨fun x hx hmax => ?_, fun hnil hr => ?_, fun hnil hr => ?_⟩, State.referenceReaders_outside⟩⟩
  · rw [exec_injectSample_taken h hp hl, RefRecord.bytes_eq]
    simp only [← List.append_assoc]
    rfl
  · obtain ⟨ref, g, data, hnext⟩ := exec_injectSample_one h hp ha hen hv h0
    refine ⟨_, hnext, ?_⟩
    simp only [State.replied_keeps, State.restAxle_keeps, State.storeSlip_keeps, State.setRef_axles, State.setRef_keeps,
      State.sampled_axle, if_true]
    have hpulses : n.toNat ≠ 0 := fun hz => hn (BitVec.eq_of_toNat_eq hz)
    exact ⟨if_neg hpulses, rfl, rfl, rfl, fun j hj => if_neg (Ne.symm hj), rfl, rfl, rfl, rfl, rfl, rfl, rfl⟩
  · exact congrArg (fun t => (t, _)) (handOnAll_eq _ _)
  · exact takeEntry_outside (entrySlot_refused ho)
  · exact takeEntry_bad (entrySlot_permitted he hfirst hlast hseen) hb
  · exact takeEntry_fault (entrySlot_permitted he hfirst hlast hseen) hb hs
  · rw [takeEntry_good (entrySlot_permitted he hfirst hlast hseen) hb hs]
    refine congrArg₂ Prod.mk ?_ (congrArg Outcome5.good ?_)
    · rw [State.sampled]
      refine State.onAxleSpeed_congr ?_
      simp only [AxleSpeed.good, entryTrend_eq, entryDecel, hasBasis_eq, nextLastTrend]
      rfl
    · simp only [State.sampledEntry, goodEntry, isTurn_eq, entryTrend_eq, entryDecel, hasBasis_eq]
      rfl
  · exact State.frameUpdate_candidate stamp hx hmax
  · exact (State.frameUpdate_none stamp hnil).trans (congrArg State.referenceReaders (State.holdReference_valid hr))
  · exact (State.frameUpdate_none stamp hnil).trans (congrArg State.referenceReaders (State.holdReference_idle hr))

end Sys2Proof.Machine

/-! Outside RUN the part is at rest, and the control-valid line is active exactly in RUN (R64, R90, R103, R105, R137, R158, R174),
after every step: in RUN nothing is asked of the blocks, outside RUN nothing wakes them, and a departure from RUN brings them to
rest. -/

namespace Sys2Proof.Machine

/-! ## What leaves a part at rest -/

namespace State.AtRest

variable {s : State}

theorem onAxleSlide (hs : s.AtRest) (i : AxleSlot) {f : AxleSlide → AxleSlide}
    (hf : s.slide.axles[i].rest = s.slide.axles[i] → (f s.slide.axles[i]).rest = f s.slide.axles[i]) :
    (s.onAxleSlide i f).AtRest :=
  { hs with
    slide := fun j => by
      rw [State.onAxleSlide_get]
      split
      · exact hf (hs.slide i)
      · exact hs.slide j }

theorem onSource (hs : s.AtRest) (d : SourceSlot) {f : SourceRec → SourceRec} (hf : (f s.demand.sources[d]).timer = none) :
    (s.onSource d f).AtRest :=
  { hs with
    lossTimers := fun e => by
      rw [State.onSource_get]
      split
      · exact hf
      · exact hs.lossTimers e }

theorem onNode (hs : s.AtRest) (n : NodeSlot) {f : NodeRec → NodeRec}
    (hf : (f (s.node n)).exch.awaiting = false ∧ (f (s.node n)).exch.deadline = none) : (s.onNode n f).AtRest :=
  { hs with
    exchanges := fun m => by
      rw [State.onNode_node]
      split
      · exact hf
      · exact hs.exchanges m }

theorem setRecorder (hs : s.AtRest) {r : RecorderBlock} (hr : ∀ x ∈ r.incidents, x.state ≠ .opened) : (s.setRecorder r).AtRest :=
  { hs with incidents := hr }

/-- Outside RUN the control-loss timer is not started (R136). -/
theorem judgeControlLoss (hs : s.AtRest) (hr : s.agent.part ≠ .run) (before : Nat) : (s.judgeControlLoss before).AtRest := by
  unfold State.judgeControlLoss
  split
  · exact { hs with controlLoss := rfl }
  · split
    · rename_i h
      exact absurd (by simpa [State.running] using h.2.2) hr
    · exact hs

theorem cutNode (hs : s.AtRest) (hr : s.agent.part ≠ .run) (n : NodeSlot) : (s.cutNode n).AtRest := by
  unfold State.cutNode
  simp only [State.running, beq_iff_eq, hr, false_and, if_false]
  split
  · exact hs
  · have hcut := hs.onNode n (f := fun r => { r.abandon with sup := { state := .cutOut, goodRun := 0, missRun := 0 } }) ⟨rfl, rfl⟩
    exact AtRest.judgeControlLoss (hcut.of_blocks (t := State.withdrawNode _ n)) (by simpa using hr) _

theorem restoreNode (hs : s.AtRest) (n : NodeSlot) : (s.restoreNode n).AtRest := by
  unfold State.restoreNode
  split
  · exact hs.onNode n (hs.exchanges n)
  · exact hs

/-- The end of a readout opens no incident (R161, R162). -/
theorem markRead (hs : s.AtRest) (n : Option Nat) : (s.markRead n).AtRest := by
  unfold State.markRead
  split
  · exact hs
  · refine hs.setRecorder fun x hx => ?_
    obtain ⟨y, hy, rfl⟩ := List.mem_map.1 hx
    have := hs.incidents y hy
    split
    · unfold Incident.read
      split <;> simp_all
    · exact this

/-- A load of the count moves running timers, and starts none (R29). -/
theorem loadCount (hs : s.AtRest) (c : Count) : (s.loadCount c).AtRest where
  epochTimer := congrArg (shiftTimer _) hs.epochTimer
  axles := hs.axles
  trucks := hs.trucks
  lossTimers d := by
    rw [State.loadCount_source]
    exact congrArg (shiftTimer _) (hs.lossTimers d)
  slide i := by
    rw [State.loadCount_axleSlide, ← hs.slide i]
    rfl
  relief t := by
    rw [State.loadCount_truckSlide, hs.relief t]
    rfl
  exchanges n := by
    obtain ⟨hidle, hdeadline⟩ := hs.exchanges n
    rw [State.loadCount_node]
    exact ⟨hidle, congrArg (shiftTimer _) hdeadline⟩
  controlLoss := congrArg (shiftTimer _) hs.controlLoss
  incidents x hx := by
    obtain ⟨y, hy, rfl⟩ := List.mem_map.1 hx
    exact hs.incidents y hy

end State.AtRest

/-- A stopped timer is not due (R25). -/
theorem Timer.not_due_stopped {t : Timer} {now : Count} (h : t = none) : ¬ t.due now = true := by simp [h, Timer.due]

theorem SlideBlock.powerOn_axle (i : AxleSlot) : SlideBlock.powerOn.axles[i] = AxleSlide.powerOn := vec6_get _ i

theorem SlideBlock.powerOn_truck (t : TruckSlot) : SlideBlock.powerOn.trucks[t] = TruckSlide.powerOn := vec2_get _ t

theorem DemandBlock.powerOn_source (d : SourceSlot) : DemandBlock.powerOn.sources[d] = SourceRec.powerOn := vec2_get _ d

/-- With the blocks that run in RUN at their start values, no exchange begun and no incident OPEN, the part is at rest. -/
theorem State.AtRest.of_start {s : State} {b : Tables} {entry : Count}
    (hb : s.blend = { BlendBlock.start b with runEntry := entry }) (hd : s.demand = DemandBlock.powerOn) (hl : s.slide = SlideBlock.powerOn) (hn : ∀ n, (s.node n).exch = Exchange.powerOn)
    (hc : s.order.controlLoss = none) (hi : ∀ x ∈ s.recorder.incidents, x.state ≠ .opened) : s.AtRest where
  epochTimer := by rw [hb]; rfl
  axles i := by rw [hb]; exact vec6_get _ i
  trucks t := by rw [hb]; exact vec2_get _ t
  lossTimers d := by rw [hd, DemandBlock.powerOn_source]; rfl
  slide i := by rw [hl, SlideBlock.powerOn_axle]; rfl
  relief t := by rw [hl, SlideBlock.powerOn_truck]
  exchanges n := by rw [hn]; exact ⟨rfl, rfl⟩
  controlLoss := hc
  incidents := hi

/-! ## The invariant -/

/-- The part is at rest outside RUN, and its control-valid line is right. -/
def State.Governed (s : State) : Prop := s.RestsOutsideRun ∧ s.controlLineRight

namespace State.Governed

variable {s t : State}

/-- In RUN nothing is asked of the blocks but the agent's. -/
theorem in_run (hs : s.Governed) (hr : s.agent.part = .run) (ha : t.agent = s.agent := by simp) : t.Governed :=
  ⟨fun h => absurd (ha ▸ hr) h, by rw [State.controlLineRight, ha]; exact hs.2⟩

/-- With the part state and the line as they are, it suffices that a part at rest stays at rest. -/
theorem of_rest (hs : s.Governed) (hrest : s.agent.part ≠ .run → s.AtRest → t.AtRest)
    (hp : t.agent.part = s.agent.part := by simp) (hv : t.agent.controlValid = s.agent.controlValid := by simp) : t.Governed :=
  ⟨fun h => hrest (hp ▸ h) (hs.1 (hp ▸ h)), by rw [State.controlLineRight, hp, hv]; exact hs.2⟩

/-- An effect that leaves the agent and the blocks that run in RUN alone. -/
theorem of_blocks (hs : s.Governed) (ha : t.agent = s.agent := by simp) (hb : t.blend = s.blend := by simp)
    (hd : t.demand = s.demand := by simp) (hl : t.slide = s.slide := by simp) (ho : t.order = s.order := by simp)
    (hr : t.recorder = s.recorder := by simp) : t.Governed :=
  hs.of_rest (fun _ h => h.of_blocks hb hd hl ho hr) (by rw [ha]) (by rw [ha])

/-- A part at rest outside RUN, its line inactive. -/
theorem at_rest (hrest : s.AtRest) (hp : s.agent.part ≠ .run) (hv : s.agent.controlValid = false) : s.Governed :=
  ⟨fun _ => hrest, by simp [State.controlLineRight, hp, hv]⟩

theorem line_inactive (hs : s.Governed) (hr : s.agent.part ≠ .run) : s.agent.controlValid = false :=
  Eq.trans hs.2 (decide_eq_false hr)

/-- What a part at rest does not do is done in RUN. -/
theorem in_run_of (hs : s.Governed) (h : ¬ s.AtRest) : s.agent.part = .run := by
  by_contra hr
  exact h (hs.1 hr)

theorem trigger (hs : s.Governed) (c : Cause) : (s.trigger c).Governed := by
  by_cases hr : s.agent.part = .run
  · exact hs.in_run hr
  · rw [State.trigger_ignored (by simp [State.takesTrigger, State.running, hr])]
    exact hs

theorem takeSnapshot (hs : s.Governed) : s.takeSnapshot.Governed := by
  by_cases hr : s.agent.part = .run
  · exact hs.in_run hr
  · simpa [State.takeSnapshot, State.running, hr] using hs

/-- A departure from RUN brings the part to rest and takes the line back (R174). -/
theorem leaveRun (p : PartState) (hp : p ≠ .run) (s : State) : (s.leaveRun p).Governed := by
  obtain ⟨hagent, -⟩ := s.leaveRun_blocks p
  exact at_rest (s.leaveRun_atRest p) (by rw [hagent]; exact hp) (by rw [hagent])

end State.Governed

theorem governed_keptByPasses : KeptByPasses State.Governed where
  drawn _ hs := hs.of_blocks
  raise _ _ hs := hs.of_blocks
  trigger c _ _ hs := hs.trigger c
  failsafe _ _ _ _ _ := State.Governed.leaveRun _ (by decide) _
  run _ _ _ hs := hs.of_blocks
  fallback _ _ hs := hs.of_rest fun _ h => { h with }

/-- An epoch is taken in RUN, and what it changes there is the business of the blocks. -/
theorem State.Governed.takeEpoch {s : State} (hs : s.Governed) (hr : s.agent.part = .run) (k : EpochKind) :
    (s.takeEpoch k).Governed :=
  governed_keptByPasses.takeEpoch (fun _ _ hu ht => ht.in_run hu) (fun _ ht => ht.takeSnapshot) k s (hs.in_run hr)

theorem governed_keptWithin : KeptWithin State.Governed where
  toKeptByPasses := governed_keptByPasses
  axleSpeed _ _ _ hs := hs.of_blocks
  ref _ _ hs := hs.of_blocks
  demand _ hs := hs.of_rest fun _ h => { h with }
  source _ _ _ _ _ hr _ _ hs := hs.in_run hr
  restAxle i _ hs := hs.of_rest fun _ h => h.onAxleSlide i fun _ => rfl
  slip i v _ hs := hs.of_rest fun _ h => h.onAxleSlide i fun ha => by rw [← ha]; rfl
  evaluated g s hs := hs.of_rest fun hr h => h.onAxleSlide g.axle fun _ => by
    simp [State.evaluated, State.evaluationActive, State.running, hr, AxleSlide.rest]
  extra _ hr hs := hs.takeEpoch hr .extra
  report _ _ _ _ _ _ _ hr hs := hs.in_run hr
  time _ _ hs := hs.of_blocks
  overflow _ _ hs := hs.of_blocks
  unclaimed _ hs := hs.of_blocks
  demandRefused _ hs := hs.of_blocks
  sampleRefused _ hs := hs.of_blocks
  reportRefused _ hs := hs.of_blocks
  responseDropped _ hs := hs.of_blocks
  accept _ _ _ _ _ _ _ hs := hs.of_blocks
  forward _ _ _ _ hs := hs.of_blocks
  push _ _ _ hs := hs.of_rest fun _ h => { h with }

/-- Every elementary effect keeps the part at rest outside RUN and the control-valid line right. -/
theorem governed_kept : Kept State.Governed where
  toKeptWithin := governed_keptWithin
  pending _ _ hs := hs.of_blocks
  powerOn x l _ _ := .at_rest (.of_start rfl rfl rfl (fun n => congrArg NodeRec.exch (vec8_get _ n)) rfl nofun) nofun rfl
  rx _ _ _ hs := hs.of_blocks
  good _ _ hs := hs.of_blocks
  badForm _ _ hs := hs.of_blocks
  badCheck _ _ hs := hs.of_blocks
  completed _ _ _ hs := hs.of_blocks
  clear _ hs := hs.of_blocks
  loseSource d _ _ hs := hs.of_rest fun _ h => h.onSource d rfl
  regular s hd hs := by
    have hr := hs.in_run_of fun h => Timer.not_due_stopped h.epochTimer hd
    unfold State.regularEpoch
    refine State.Governed.takeEpoch ?_ ?_ .regular
    · exact hs.in_run hr rfl
    · exact hr
  holdExpiry i s hd hs := hs.in_run <| hs.in_run_of fun h => by
    have hstopped : s.slide.axles[i].holdTimer = none := by rw [← h.slide i]; rfl
    exact Timer.not_due_stopped hstopped hd
  lockOut t s hd hs := hs.in_run <| hs.in_run_of fun h => by
    have hstopped : s.slide.trucks[t].timer = none := by rw [h.relief t]; rfl
    exact Timer.not_due_stopped hstopped hd
  missDeadline n _ hd hs := hs.in_run <| hs.in_run_of fun h => Timer.not_due_stopped (h.exchanges n).2 hd
  controlLoss _ _ hs := hs.of_rest fun _ h => { h with controlLoss := rfl }
  line _ _ _ _ hs := hs.of_rest fun _ h => h.setRecorder h.incidents
  pop _ hs := hs.of_rest fun _ h => { h with }
  part p s hr hp hs := .at_rest { hs.1 hr with } hp (hs.line_inactive hr)
  validation _ _ hs := hs.of_rest (fun _ h => { h with }) rfl rfl
  enterRun _ _ _ _ := ⟨fun h => absurd rfl h, rfl⟩
  leave p s _ hp _ := State.Governed.leaveRun p hp s
  write _ _ _ _ _ _ hs := hs.of_blocks
  load c _ _ hs := hs.of_rest (fun _ h => h.loadCount c) rfl rfl
  readEvents _ hs := hs.of_blocks
  cut n _ hs := hs.of_rest fun hr h => h.cutNode hr n
  restore n _ hs := hs.of_rest fun _ h => h.restoreNode n
  markRead n _ hs := hs.of_rest fun _ h => h.markRead n
  release _ _ hs := hs.of_rest fun _ h => h.setRecorder fun x hx => h.incidents x (List.mem_of_mem_filter hx)
  softReset _ _ s hr hs _ _ _ _ :=
    .at_rest (.of_start rfl rfl rfl (fun n => congrArg NodeRec.exch (vec8_get _ n)) rfl (hs.1 hr).incidents) nofun rfl

/-- Settles O58: every elementary effect keeps the two, and so does every step. -/
theorem partRestsOutsideRun : Obligations.PartRestsOutsideRun :=
  governed_kept.step

end Sys2Proof.Machine

/-! How the effective demand is formed, and the entry into and the clearing of EMERGENCY (R59 to R63, R46, R69). -/

namespace Sys2Proof.Machine

/-! ## The records it is formed from (R59 to R62) -/

theorem demandsEmergency_eq (r : SourceRec) :
    demandsEmergency r = decide (r.state = .current ∧ r.payload.map DemandPayload.mode = some .emergency) := by
  cases h : r.payload <;> simp [demandsEmergency, h]

theorem State.latchMayClear_eq (s : State) : s.latchMayClear =
    (!demandsEmergency s.demand.sources[0] && !demandsEmergency s.demand.sources[1] &&
      decide (s.speed.ref.state = .invalid ∨ (s.speed.ref.state = .valid ∧ s.speed.ref.value = 0))) := by
  simp only [State.latchMayClear, State.emergencyDemanded, State.standstill, Bool.not_or, beq_eq_decide, Bool.decide_or,
    Bool.decide_and]
  rw [Bool.or_comm]

/-- An EMERGENCY is in force: one is demanded, or the latch holds and may not clear (R61, R62). -/
def State.EmergencyInForce (s : State) : Prop :=
  s.emergencyDemanded = true ∨ (s.demand.eff.latch = true ∧ s.latchMayClear = false)

/-- The contribution that sets mode and level (Table 4-6). -/
def State.winning (s : State) : Contribution :=
  winner (contribution s.tables.blend 0 s.demand.sources[0]) (contribution s.tables.blend 1 s.demand.sources[1])

theorem State.formDemand_latched {s : State} (h : s.EmergencyInForce) :
    s.formDemand = { mode := .emergency, level := 1000, floor := effectiveFloor s.demand.sources[0], origin := s.emergencyOrigin
                     latch := true } := by
  unfold State.formDemand State.judgedLatch
  refine if_pos ?_
  rcases h with h | ⟨hl, hc⟩
  · simp [h]
  · simp [hl, hc]

theorem State.formDemand_shared {s : State} (h : ¬ s.EmergencyInForce) :
    s.formDemand = { mode := s.winning.mode, level := s.winning.level, floor := effectiveFloor s.demand.sources[0]
                     origin := s.winning.origin, latch := false } := by
  obtain ⟨hdemanded, hlatch⟩ := not_or.1 h
  unfold State.formDemand State.judgedLatch
  exact if_neg (by simpa using And.intro (by simpa using hlatch) hdemanded)

/-- A contribution as mode, level and origin. -/
def Contribution.parts (c : Contribution) : Mode × Nat × DemandOrigin := (c.mode, c.level, c.origin)

/-! ## Recomputation (R60, R63, R69) -/

theorem State.recompute_stays {s : State} (h : s.demand.eff.mode = .emergency ∨ s.formDemand.mode ≠ .emergency) :
    s.recompute = s.setEff s.formDemand := by
  unfold State.recompute
  refine if_neg fun ⟨hold, hnew⟩ => ?_
  rcases h with h | h
  · exact hold h
  · exact h hnew

theorem State.recompute_enters {s : State} (hold : s.demand.eff.mode ≠ .emergency) (hnew : s.formDemand.mode = .emergency) :
    s.recompute = (s.setEff s.formDemand).enterEmergency := by
  unfold State.recompute
  exact if_pos ⟨hold, hnew⟩

theorem State.extraEpoch_eq (s : State) : s.extraEpoch = if s.agent.part = .run then s.takeEpoch .extra else s := by
  simp [State.extraEpoch, State.running]

/-! ## Reference updates (R46, R62) -/

theorem State.judgeLatch_eq (s : State) : s.judgeLatch =
    if s.agent.part = .run ∧ s.demand.eff.latch = true ∧ s.latchMayClear = true then s.setEff s.formDemand else s := by
  simp [State.judgeLatch, State.running]

/-- An enabled monitor entry watches the reference (Table 9-2). -/
theorem State.watches_reference_iff (s t : State) : s.watches t.referenceUpdates = true ↔
    ∃ m : Fin 8, s.tables.monitor[m].enabled = true ∧
      (s.tables.monitor[m].source = .refSpeed ∨ s.tables.monitor[m].source = .decelEstimate) := by
  have hvalue (x : MonSource) : (Updates.value t.referenceUpdates x).isSome = true ↔ x = .refSpeed ∨ x = .decelEstimate := by
    simp [State.referenceUpdates, Updates.value, eq_comm (a := x)]
  simp only [State.watches, List.any_eq_true, mem_monitorEntries, true_and, Bool.and_eq_true, hvalue]

/-- Settles O24: the effective demand by what is in force, its recomputation by the mode before it, and the readers of a reference
update by what the monitor watches. -/
theorem effectiveDemandIsFormed : Obligations.EffectiveDemandIsFormed := by
  intro s emerg mayClear floor part source0 source1 formed watched pass taken
  have hemerg (d : SourceSlot) : emerg d = demandsEmergency s.demand.sources[d] := (demandsEmergency_eq _).symm
  have hemerg0 : emerg 0 = demandsEmergency s.demand.sources[0] := hemerg 0
  have hemerg1 : emerg 1 = demandsEmergency s.demand.sources[1] := hemerg 1
  have hdemanded : s.emergencyDemanded = (emerg 0 || emerg 1) := by rw [hemerg0, hemerg1]; rfl
  have hclear : s.latchMayClear = mayClear := by rw [State.latchMayClear_eq, ← hemerg0, ← hemerg1]
  have hfloor : effectiveFloor s.demand.sources[0] = floor := by
    simp only [effectiveFloor, floor]
    cases s.demand.sources[0].state <;> cases s.demand.sources[0].payload <;> rfl
  have hpart (d : SourceSlot) (protection : Bool) (hp : protection = required d s.tables.blend.protection) :
      (contribution s.tables.blend d s.demand.sources[d]).map Contribution.parts = part d (originOf d) protection := by
    simp only [contribution, part, hp]
    cases s.demand.sources[d].state with
    | never => rfl
    | current => cases s.demand.sources[d].payload <;> rfl
    | lost => cases required d s.tables.blend.protection <;> rfl
  set c0 := contribution s.tables.blend 0 s.demand.sources[0]
  set c1 := contribution s.tables.blend 1 s.demand.sources[1]
  have hsource0 : source0 = c0.map Contribution.parts := (hpart 0 true rfl).symm
  have hsource1 : source1 = c1.map Contribution.parts := (hpart 1 s.tables.blend.protection rfl).symm
  have hforce : s.EmergencyInForce ↔ emerg 0 = true ∨ emerg 1 = true ∨ (s.demand.eff.latch = true ∧ mayClear = false) := by
    rw [State.EmergencyInForce, hdemanded, hclear, Bool.or_eq_true, or_assoc]
  refine ⟨fun h => ?_, fun h0 h1 hl => ?_, State.recompute_stays, fun hold hnew => ⟨_, State.recompute_enters hold hnew⟩,
    s.extraEpoch_eq, ?_, fun hr hw => ?_, fun hr hw => ?_⟩
  · rw [State.formDemand_latched (hforce.2 h), hfloor, State.emergencyOrigin, ← hemerg0, ← hemerg1]
  · intro won
    have hwon : won = s.winning.parts := by
      show won = (winner c0 c1).parts
      simp only [won, hsource0, hsource1]
      cases c0 with
      | none => cases c1 <;> rfl
      | some a =>
        cases c1 with
        | none => rfl
        | some b =>
          simp only [Option.map_some, Contribution.parts, winner]
          split <;> rfl
    have hnone : ¬ s.EmergencyInForce := by
      rw [hforce, h0, h1]
      simpa using hl
    rw [hwon, State.formDemand_shared hnone, hfloor]
    rfl
  · rw [← hclear]; exact s.judgeLatch_eq
  · exact State.withMonitor_alone _ (.inr (mt (s.watches_reference_iff s).1 hw))
  · exact State.withMonitor_either _ hr ((s.watches_reference_iff s).2 hw)

end Sys2Proof.Machine

/-! The emergency latch and the effective mode agree, and every level and floor lies in its range (R57, R60, R61), after every step:
the effective demand is sound whenever it is formed from sound source records, and WRITE_ENTRY keeps the penalty level in its range
(R169). -/

namespace Sys2Proof.Machine

/-! ## The effective demand formed from sound records (R59 to R61) -/

/-- Mode, latch, level and floor of an effective demand agree with one another and with their ranges (R60, R61). -/
structure EffDemand.Sound (e : EffDemand) : Prop where
  latch : e.mode = .emergency ↔ e.latch = true
  level : e.level ≤ 1000
  floor : e.floor ≤ 500

/-- A last payload lies in its ranges (R57). -/
def SourceRec.Sound (r : SourceRec) : Prop := ∀ p, r.payload = some p → p.level ≤ 1000 ∧ p.floor ≤ 500

theorem State.demandSound_iff {s : State} : s.DemandSound ↔
    s.demand.eff.Sound ∧ (∀ d : SourceSlot, s.demand.sources[d].Sound) ∧ s.tables.blend.penalty ≤ 1000 :=
  ⟨fun ⟨hlatch, hlevel, hfloor, hsources, hpenalty⟩ => ⟨⟨hlatch, hlevel, hfloor⟩, hsources, hpenalty⟩,
    fun ⟨⟨hlatch, hlevel, hfloor⟩, hsources, hpenalty⟩ => ⟨hlatch, hlevel, hfloor, hsources, hpenalty⟩⟩

theorem effectiveFloor_le {r : SourceRec} (hr : r.Sound) : effectiveFloor r ≤ 500 := by
  unfold effectiveFloor
  split
  · exact Nat.zero_le _
  · exact Nat.zero_le _
  · exact (hr _ ‹_›).2

theorem contribution_level_le {b : BlendSet} {d : SourceSlot} {r : SourceRec} {c : Contribution} (hb : b.penalty ≤ 1000)
    (hr : r.Sound) (hc : contribution b d r = some c) : c.level ≤ 1000 := by
  unfold contribution at hc
  split at hc
  · exact nomatch hc
  · exact nomatch hc
  · obtain rfl := Option.some.inj hc
    dsimp only
    split
    · exact Nat.zero_le _
    · exact (hr _ ‹_›).1
  · split at hc
    · obtain rfl := Option.some.inj hc
      exact hb
    · exact nomatch hc

/-- The winning contribution is one of the two, or RELEASE with none (Table 4-6). -/
theorem State.winning_cases (s : State) : s.winning = ⟨.release, 0, .source0⟩ ∨
    ∃ d : SourceSlot, contribution s.tables.blend d s.demand.sources[d] = some s.winning := by
  unfold State.winning winner
  split
  · exact .inl rfl
  · exact .inr ⟨0, ‹_›⟩
  · exact .inr ⟨1, ‹_›⟩
  · split
    · exact .inr ⟨1, ‹_›⟩
    · exact .inr ⟨0, ‹_›⟩

/-- Only a CURRENT source in EMERGENCY contributes EMERGENCY (Table 4-4). -/
theorem contribution_emergency {b : BlendSet} {d : SourceSlot} {r : SourceRec} {c : Contribution} (hc : contribution b d r = some c)
    (hm : c.mode = .emergency) : demandsEmergency r = true := by
  unfold contribution at hc
  split at hc
  · exact nomatch hc
  · exact nomatch hc
  · rename_i hstate hpayload
    obtain rfl := Option.some.inj hc
    simpa [demandsEmergency, hstate, hpayload] using hm
  · split at hc
    · obtain rfl := Option.some.inj hc
      exact nomatch hm
    · exact nomatch hc

/-- With no EMERGENCY demanded the winning contribution has another mode. -/
theorem State.winning_mode {s : State} (h : ¬ s.emergencyDemanded = true) : s.winning.mode ≠ .emergency := by
  intro hm
  rcases s.winning_cases with hwin | ⟨d, hwin⟩
  · rw [hwin] at hm
    exact nomatch hm
  · exact h (State.emergencyDemanded_of (contribution_emergency hwin hm))

theorem State.winning_level_le {s : State} (hs : ∀ d : SourceSlot, s.demand.sources[d].Sound)
    (hb : s.tables.blend.penalty ≤ 1000) : s.winning.level ≤ 1000 := by
  rcases s.winning_cases with hwin | ⟨d, hwin⟩
  · rw [hwin]
    exact Nat.zero_le _
  · exact contribution_level_le hb (hs d) hwin

theorem State.formDemand_sound {s : State} (hs : ∀ d : SourceSlot, s.demand.sources[d].Sound)
    (hb : s.tables.blend.penalty ≤ 1000) : s.formDemand.Sound := by
  have hfloor := effectiveFloor_le (hs 0)
  by_cases h : s.EmergencyInForce
  · rw [State.formDemand_latched h]
    exact ⟨by simp, Nat.le_refl _, hfloor⟩
  · rw [State.formDemand_shared h]
    exact ⟨iff_of_false (State.winning_mode fun hd => h (.inl hd)) (by simp), State.winning_level_le hs hb, hfloor⟩

/-! ## The penalty level under WRITE_ENTRY (R169) -/

/-- A value that WRITE_ENTRY accepts lies in its field's range. -/
theorem fieldAt_le_of_inRanges {fs : List Field} {vs : List Nat} {k : Nat} {f : Field} (h : inRanges fs vs = true)
    (hf : fs[k]? = some f) : fieldAt vs k ≤ f.hi := by
  induction fs generalizing vs k with
  | nil => exact nomatch hf
  | cons g fs ih =>
    match vs, h with
    | v :: vs, h =>
      simp only [inRanges, Bool.and_eq_true, decide_eq_true_eq] at h
      obtain ⟨⟨-, hv⟩, hvs⟩ := h
      match k with
      | 0 =>
        obtain rfl := Option.some.inj hf
        exact hv
      | k + 1 => exact ih (vs := vs) (k := k) hvs hf

/-- A write of another table's entry leaves the BLEND set alone. -/
theorem Tables.withFields_blend {own : Byte} {t u : Tables} {e : TableRef} {vs : List Nat} (h : t.withFields own e vs = some u)
    (he : e ≠ .blend) : u.blend = t.blend := by
  cases e with
  | blend => exact absurd rfl he
  | classify | node | monitor =>
    obtain ⟨_, -, rfl⟩ := Option.map_eq_some_iff.1 h
    rfl
  | link =>
    simp only [Tables.withFields] at h
    split at h
    · exact nomatch h
    · obtain rfl := Option.some.inj h
      rfl
  | axle | curvePoint | curveCount | truck | ramp | speed | slide | recorder | time =>
    obtain rfl := Option.some.inj h
    rfl

theorem penalty_powerOn : Tables.powerOn.blend.penalty ≤ 1000 := by decide

/-- A written penalty level lies in its range. -/
theorem Tables.penalty_written {own : Byte} {t u : Tables} {e : TableRef} {data : List Byte} (h : t.written own e data = some u)
    (ht : t.blend.penalty ≤ 1000) : u.blend.penalty ≤ 1000 := by
  unfold Tables.written at h
  dsimp only at h
  split at h
  · rename_i hranges
    by_cases he : e = .blend
    · subst he
      obtain rfl := Option.some.inj h
      exact fieldAt_le_of_inRanges (k := 6) hranges rfl
    · rw [Tables.withFields_blend h he]
      exact ht
  · exact nomatch h

/-! ## The invariant -/

namespace State.DemandSound

variable {s t : State}

/-- Soundness is a matter of the demand intake and of the penalty level. -/
theorem of_blocks (hs : s.DemandSound) (hd : t.demand = s.demand := by simp) (ht : t.tables = s.tables := by simp) :
    t.DemandSound := by
  rw [State.demandSound_iff] at hs ⊢
  rwa [hd, ht]

/-- With the effective demand, the payloads and the tables as they are, the rest of the source records may change. -/
theorem of_payloads (hs : s.DemandSound) (hp : ∀ d : SourceSlot, t.demand.sources[d].payload = s.demand.sources[d].payload)
    (he : t.demand.eff = s.demand.eff := by simp) (ht : t.tables = s.tables := by simp) : t.DemandSound := by
  rw [State.demandSound_iff] at hs ⊢
  obtain ⟨heff, hsources, hpenalty⟩ := hs
  exact ⟨he ▸ heff, fun d p h => hsources d p ((hp d).symm.trans h), ht ▸ hpenalty⟩

theorem setFormed (hs : s.DemandSound) : (s.setEff s.formDemand).DemandSound := by
  rw [State.demandSound_iff] at hs ⊢
  exact ⟨State.formDemand_sound hs.2.1 hs.2.2, hs.2⟩

theorem onSource (hs : s.DemandSound) (d : SourceSlot) {f : SourceRec → SourceRec}
    (hf : s.demand.sources[d].Sound → (f s.demand.sources[d]).Sound) : (s.onSource d f).DemandSound := by
  rw [State.demandSound_iff] at hs ⊢
  obtain ⟨heff, hsources, hpenalty⟩ := hs
  refine ⟨heff, fun e => ?_, hpenalty⟩
  rw [State.onSource_get]
  split
  · exact hf (hsources d)
  · exact hsources e

theorem leaveRun (hs : s.DemandSound) (p : PartState) : (s.leaveRun p).DemandSound := by
  obtain ⟨-, hdemand, -⟩ := s.leaveRun_blocks p
  exact hs.of_payloads (fun d => by rw [hdemand, DemandBlock.leaveRun_source]) (by rw [hdemand]; rfl)

/-- No frame taken yet, and no demand (R54, R64). -/
theorem of_start (hp : t.tables.blend.penalty ≤ 1000) (hn : ∀ d : SourceSlot, t.demand.sources[d].payload = none)
    (he : t.demand.eff = EffDemand.powerOn) : t.DemandSound := by
  rw [State.demandSound_iff]
  refine ⟨?_, fun d p h => ?_, hp⟩
  · rw [he]
    exact ⟨by decide, by decide, by decide⟩
  · rw [hn d] at h
    exact nomatch h

end State.DemandSound

theorem demandSound_keptByPasses : KeptByPasses State.DemandSound where
  drawn _ hs := hs.of_blocks
  raise _ _ hs := hs.of_blocks
  trigger _ _ _ hs := hs.of_blocks
  failsafe _ _ s _ hs := (hs.of_blocks : (State.setCause _ _ (s.trigger .failsafeEntry)).DemandSound).leaveRun .failsafe
  run _ _ _ hs := hs.of_blocks
  fallback _ _ hs := hs.of_blocks

theorem State.DemandSound.takeEpoch {s : State} (hs : s.DemandSound) (k : EpochKind) : (s.takeEpoch k).DemandSound :=
  demandSound_keptByPasses.takeEpoch (fun _ _ _ ht => ht.of_blocks) (fun _ ht => ht.of_blocks) k s hs.of_blocks

theorem demandSound_keptWithin : KeptWithin State.DemandSound where
  toKeptByPasses := demandSound_keptByPasses
  axleSpeed _ _ _ hs := hs.of_blocks
  ref _ _ hs := hs.of_blocks
  demand _ hs := hs.setFormed
  source d _ _ _ _ _ hl hf hs := hs.onSource d fun _ _ h => Option.some.inj h ▸ ⟨hl, hf⟩
  restAxle _ _ hs := hs.of_blocks
  slip _ _ _ hs := hs.of_blocks
  evaluated _ _ hs := hs.of_blocks
  extra _ _ hs := hs.takeEpoch .extra
  report _ _ _ _ _ _ _ _ hs := hs.of_blocks
  time _ _ hs := hs.of_blocks
  overflow _ _ hs := hs.of_blocks
  unclaimed _ hs := hs.of_blocks
  demandRefused _ hs := hs.of_blocks
  sampleRefused _ hs := hs.of_blocks
  reportRefused _ hs := hs.of_blocks
  responseDropped _ hs := hs.of_blocks
  accept _ _ _ _ _ _ _ hs := hs.of_blocks
  forward _ _ _ _ hs := hs.of_blocks
  push _ _ _ hs := hs.of_blocks

/-- Every elementary effect keeps the demand sound. -/
theorem demandSound_kept : Kept State.DemandSound where
  toKeptWithin := demandSound_keptWithin
  pending _ _ hs := hs.of_blocks
  powerOn _ _ _ _ := .of_start penalty_powerOn (fun d => congrArg SourceRec.payload (DemandBlock.powerOn_source d)) rfl
  rx _ _ _ hs := hs.of_blocks
  good _ _ hs := hs.of_blocks
  badForm _ _ hs := hs.of_blocks
  badCheck _ _ hs := hs.of_blocks
  completed _ _ _ hs := hs.of_blocks
  clear _ hs := hs.of_blocks
  loseSource d _ _ hs := hs.onSource d id
  regular _ _ hs := by
    unfold State.regularEpoch
    refine State.DemandSound.takeEpoch ?_ .regular
    exact hs.of_blocks rfl rfl
  holdExpiry _ _ _ hs := hs.of_blocks
  lockOut _ _ _ hs := hs.of_blocks
  missDeadline _ _ _ hs := hs.of_blocks
  controlLoss _ _ hs := hs.of_blocks
  line _ _ _ _ hs := hs.of_blocks
  pop _ hs := hs.of_blocks
  part _ _ _ _ hs := hs.of_blocks
  validation _ _ hs := hs.of_blocks
  enterRun _ _ _ hs := .of_start hs.penalty (fun d => congrArg SourceRec.payload (vec2_get _ d)) rfl
  leave p _ _ _ hs := hs.leaveRun p
  write _ _ _ _ _ hw hs := { hs with penalty := Tables.penalty_written hw hs.penalty }
  load c s _ hs := hs.of_payloads (fun d => by rw [State.loadCount_source]; rfl) rfl rfl
  readEvents _ hs := hs.of_blocks
  cut _ _ hs := hs.of_blocks
  restore _ _ hs := hs.of_blocks
  markRead _ _ hs := hs.of_blocks
  release _ _ hs := hs.of_blocks
  softReset _ _ _ _ hs _ _ _ _ :=
    .of_start hs.penalty (fun d => congrArg SourceRec.payload (DemandBlock.powerOn_source d)) rfl

/-- Settles O25: the demand is sound when formed, and every elementary effect keeps it so. -/
theorem demandStaysSound : Obligations.DemandStaysSound :=
  demandSound_kept.step

end Sys2Proof.Machine

/-! The departure from RUN block by block, and SET_STATE out of RUN (R64, R90, R103, R105, R125, R137, R158, R172, R174). -/

namespace Sys2Proof.Machine

/-! ## Exchanges abandoned and release orders offered (R137) -/

/-- An AWAITING exchange that is abandoned is counted once, an IDLE one not at all. -/
theorem NodeRec.abandon_eq (r : NodeRec) : r.abandon =
    { r with
      exch := { r.exch with awaiting := false, deadline := none }
      counts := { r.counts with abandoned := r.counts.abandoned + (if r.exch.awaiting then 1 else 0) } } := by
  unfold NodeRec.abandon
  split
  · rfl
  · simp [Exchange.ended]

theorem State.abandonAll_node (s : State) (n : NodeSlot) : s.abandonAll.node n = (s.node n).abandon := vec8_get _ n

/-- The payload of a release order: the tag, RELEASE_CONTROL, no emergency and the value 0 (Table 1-6). -/
theorem releasePayload_eq (epoch : Counter) :
    orderPayload (tagOf epoch) .releaseControl false 0 = [BitVec.ofNat 8 epoch.toNat, 0, 0, 0, 0] := by
  rw [tagOf, ← BitVec.ofNat_toNat]
  rfl

/-- What a release order on leaving RUN depends on and leaves alone: the tables, the epoch number and the supervision states. -/
def State.SameOrders (s u : State) : Prop :=
  u.tables = s.tables ∧ u.blend.epoch = s.blend.epoch ∧ ∀ n, (u.node n).sup = (s.node n).sup

theorem State.SameOrders.releaseOnLeaving {s u : State} (h : s.SameOrders u) (n : NodeSlot) :
    s.SameOrders (u.releaseOnLeaving n) := by
  obtain ⟨htables, hepoch, hsup⟩ := h
  refine ⟨by simpa using htables, by simpa using hepoch, fun m => ?_⟩
  obtain ⟨-, hm, -⟩ := u.releaseOnLeaving_orders n m
  exact hm.trans (hsup m)

/-- Functions that agree where `P` holds fold alike, when `P` holds at the start and is kept. -/
theorem foldl_congr_of_keeps {α β : Type} (P : α → Prop) {f g : α → β → α} (hkeep : ∀ a b, P a → P (f a b))
    (heq : ∀ a b, P a → f a b = g a b) (l : List β) {a : α} (ha : P a) : l.foldl f a = l.foldl g a := by
  induction l generalizing a with
  | nil => rfl
  | cons b l ih =>
    rw [List.foldl_cons, List.foldl_cons, ← heq a b ha]
    exact ih (hkeep a b ha)

/-! ## The condition monitor's run states -/

theorem State.raise_runs (e : EventId) (s : State) : (s.raise e).monitor.runs = s.monitor.runs := by
  unfold State.raise
  split <;> simp

theorem State.trigger_runs (c : Cause) (s : State) : (s.trigger c).monitor.runs = s.monitor.runs := by
  unfold State.trigger refuseTrigger
  repeat' split
  all_goals simp [State.raise_runs]

/-- The entry into FAILSAFE leaves the run states as they are (R145). -/
theorem State.enterFailsafe_runs {s : State} (c : FailsafeCause) (entry : Nat) (h : s.agent.part = .run) :
    (s.enterFailsafe c entry).monitor.runs = s.monitor.runs := by
  rw [State.enterFailsafe_run c entry h, State.raise_runs]
  simp [State.failed, State.trigger_runs]

/-! ## What the departure leaves (R64, R90, R137) -/

/-- `u` is at rest with no effort order waiting, and keeps of `s` what a departure from RUN keeps. -/
def State.LeftBy (s u : State) : Prop :=
  u.AtRest ∧ (∀ f ∈ u.link.portB.originated, f.isOrder = false) ∧
  (∀ n : NodeSlot, (u.node n).sup = (s.node n).sup ∧ (u.node n).achieved = (s.node n).achieved) ∧
  u.blend.epoch = s.blend.epoch ∧ u.blend.fallback = s.blend.fallback ∧ u.demand.eff = s.demand.eff ∧
  u.monitor.runs = s.monitor.runs ∧ u.speed = s.speed ∧ u.time = s.time ∧ u.tables = s.tables

theorem State.noOrders_portB {u : State} (h : ∀ f ∈ (u.port .b).originated, f.isOrder = false) :
    ∀ f ∈ u.link.portB.originated, f.isOrder = false := h

theorem State.leaveRun_leftBy (p : PartState) (s : State) : s.LeftBy (s.leaveRun p) := by
  obtain ⟨-, hdemand, hblend, -⟩ := s.leaveRun_blocks p
  refine ⟨s.leaveRun_atRest p, State.noOrders_portB (s.leaveRun_originated p), fun n => ((s.leaveRun_orders p).1 n).2, ?_, ?_, ?_, ?_⟩
  · rw [hblend]; rfl
  · rw [hblend]; rfl
  · rw [hdemand]; rfl
  · simp

theorem State.enterFailsafe_leftBy {s : State} (c : FailsafeCause) (entry : Nat) (h : s.agent.part = .run) :
    s.LeftBy (s.enterFailsafe c entry) := by
  obtain ⟨hepoch, hfallback, heff⟩ := State.enterFailsafe_kept c entry h
  refine ⟨State.enterFailsafe_atRest c entry h, State.noOrders_portB (State.enterFailsafe_originated c entry h),
    fun n => State.enterFailsafe_node c entry h n, hepoch, hfallback, heff, State.enterFailsafe_runs c entry h, ?_⟩
  simp

/-! ## SET_STATE in RUN (R172) -/

section
variable {s : State} {r : Request} {rest : List Request} (h : s.asks r rest 0x02)
include h

theorem exec_setState_changes {b : Byte} {p : PartState} {u : State} (ha : r.args = [b]) (hp : partOfCode b.toNat = some p)
    (hu : s.changeState p = accepted u) (hb : u.agent.part.code = b) : exec .setState s = .next (u.replied r .ok [b]) := by
  refine congrArg Host.Outcome.next (serve_answer h.1 (State.asks_ofKind h rfl) ?_)
  have harg : r.arg 0 = b.toNat := by rw [Request.arg, ha]; rfl
  simp [answerSetState, ha, harg, hp, hu, accepted, hb]

/-- At standstill SET_STATE leaves RUN for PASS or CONFIG. -/
theorem exec_setState_leaves {b : Byte} {p : PartState} (hrun : s.agent.part = .run) (ha : r.args = [b])
    (hp : (b = 0 ∧ p = .pass) ∨ (b = 1 ∧ p = .config)) (hv : s.speed.ref.state = .valid) (h0 : s.speed.ref.value = 0) :
    exec .setState s = .next ((s.leaveRun p).replied r .ok [b]) := by
  have hstand : s.standstill = true := by simp [State.standstill, hv, h0]
  have hpart : (s.leaveRun p).agent.part = p := by rw [(s.leaveRun_blocks p).1]
  rcases hp with ⟨rfl, rfl⟩ | ⟨rfl, rfl⟩
  all_goals
    refine exec_setState_changes h ha rfl ?_ (by rw [hpart]; rfl)
    simp only [State.changeState, hrun, State.requestLeave, hstand, if_true]

/-- SET_STATE takes the part from RUN to FAILSAFE at any speed. -/
theorem exec_setState_fails (hrun : s.agent.part = .run) (ha : r.args = [3]) :
    exec .setState s = .next ((s.enterFailsafe .management 0).replied r .ok [3]) := by
  refine exec_setState_changes h ha rfl ?_ (by rw [State.enterFailsafe_agent _ _ hrun]; rfl)
  simp only [State.changeState, hrun]

end

/-- Settles O55: the blocks' values for leaving RUN with the release orders folded over them, and the answers of SET_STATE. -/
theorem leavingRunBringsRest : Obligations.LeavingRunBringsRest := by
  refine ⟨fun s target => ?_, fun s r rest h hrun => ?_⟩
  · intro base release
    have hbase : (s.leaving target).abandonAll = base := by
      simp only [State.abandonAll, State.leaving_node, NodeRec.abandon_eq]
      rfl
    rw [State.leaveRun_eq, State.releaseControl, hbase]
    refine foldl_congr_of_keeps s.SameOrders (fun u n hu => hu.releaseOnLeaving n) (fun u n hu => ?_) _ ?_
    · obtain ⟨htables, hepoch, hsup⟩ := hu
      simp only [State.releaseOnLeaving, State.offerRelease, htables, hepoch, hsup, releasePayload_eq, State.hasRoom,
        decide_eq_true_eq, release]
      rfl
    · exact ⟨rfl, rfl, fun n => by rw [← hbase, State.abandonAll_node]; rfl⟩
  · intro left
    refine ⟨fun b p ha hp hv h0 => ?_, fun ha => ?_⟩
    · have hnext := exec_setState_leaves h hrun ha hp hv h0
      exact ⟨hnext, s.leaveRun p, hnext, (s.leaveRun_blocks p).1, s.leaveRun_leftBy p, by simp⟩
    · have hnext := exec_setState_fails h hrun ha
      refine ⟨hnext, s.enterFailsafe .management 0, hnext, State.enterFailsafe_agent _ _ hrun, State.enterFailsafe_leftBy _ _ hrun, ?_⟩
      rw [State.enterFailsafe_run _ _ hrun]
      exact State.isPending_raised ..

end Sys2Proof.Machine

/-! The target computation of an epoch (R72 to R82, R85). -/

namespace Sys2Proof.Machine

/-! ## The shares of the trucks (R79) -/

section
variable (target c1 c2 : Nat)

/-- Two eligible trucks take a half each, the first one the odd unit, and each what the other's cap leaves over. -/
theorem split_both : split target true true c1 c2 =
    (min ((target + 1) / 2 + (target / 2 - c2)) c1, min (target / 2 + ((target + 1) / 2 - c1)) c2) := by
  have hhalf : target - (target + 1) / 2 = target / 2 := by omega
  simp only [split, hhalf]

theorem split_halves (h1 : (target + 1) / 2 ≤ c1) (h2 : target / 2 ≤ c2) :
    split target true true c1 c2 = ((target + 1) / 2, target / 2) := by
  rw [split_both, Nat.sub_eq_zero_of_le h1, Nat.sub_eq_zero_of_le h2]
  exact Prod.ext (Nat.min_eq_left h1) (Nat.min_eq_left h2)

theorem split_first : split target true false c1 c2 = (min target c1, 0) := rfl

theorem split_second : split target false true c1 c2 = (0, min target c2) := rfl

theorem split_none : split target false false c1 c2 = (0, 0) := rfl

/-- The shares keep within the caps of the eligible trucks and place all that these can hold. -/
theorem split_places (e1 e2 : Bool) :
    let x := split target e1 e2 c1 c2
    x.1 ≤ c1 ∧ x.2 ≤ c2 ∧ (e1 = false → x.1 = 0) ∧ (e2 = false → x.2 = 0) ∧
      x.1 + x.2 = min target ((if e1 then c1 else 0) + (if e2 then c2 else 0)) := by
  cases e1 <;> cases e2
  · simp [split_none]
  · simp [split_second]
  · simp [split_first]
  · simp only [split_both, if_true, reduceCtorEq, false_implies, true_and]
    omega

end

/-! ## The capability curve (R72) -/

/-- The speeds of the points rise along the list. -/
abbrev Rising (l : List CurvePoint) : Prop := l.Pairwise fun p q => p.speed < q.speed

/-- Speeds that rise from each point to the next rise along the list. -/
theorem rising_of_steps {l : List CurvePoint} (h : ∀ k (hk : k + 1 < l.length), l[k].speed < l[k + 1].speed) : Rising l :=
  haveI : IsTrans CurvePoint fun p q => p.speed < q.speed := ⟨fun _ _ _ => Nat.lt_trans⟩
  List.isChain_iff_pairwise.1 (List.isChain_iff_getElem.2 h)

theorem Rising.head_le {p : CurvePoint} {l : List CurvePoint} (h : Rising (p :: l)) : ∀ q ∈ p :: l, p.speed ≤ q.speed := by
  intro q hq
  rcases List.mem_cons.1 hq with rfl | hq
  · exact le_rfl
  · exact (List.rel_of_pairwise_cons h hq).le

/-- A point at or below the speed is passed over when the next one is too. -/
theorem readCurve_passes {p q : CurvePoint} {rest : List CurvePoint} {v : Nat} (h : q.speed ≤ v) :
    readCurve (p :: q :: rest) v = readCurve (q :: rest) v := if_neg (Nat.not_lt.2 h)

/-- The last point is read at its speed and above. -/
theorem readCurve_last {l : List CurvePoint} (hl : Rising l) (hne : l ≠ []) {v : Nat} (hv : (l.getLast hne).speed ≤ v) :
    readCurve l v = (l.getLast hne).effort := by
  induction l with
  | nil => exact absurd rfl hne
  | cons p l ih =>
    cases l with
    | nil => rfl
    | cons q rest =>
      have hq : q.speed ≤ v := (Rising.head_le hl.of_cons _ (List.getLast_mem (List.cons_ne_nil q rest))).trans hv
      rw [readCurve_passes hq]
      exact ih hl.of_cons (List.cons_ne_nil q rest) hv

/-- Between two points their interpolation is read. -/
theorem readCurve_between {l : List CurvePoint} (hl : Rising l) {k v : Nat} (hk : k + 1 < l.length) (hlow : l[k].speed ≤ v)
    (hhigh : v < l[k + 1].speed) : readCurve l v = interpolate l[k] l[k + 1] v := by
  induction l generalizing k with
  | nil => exact absurd hk (by simp)
  | cons p l ih =>
    cases l with
    | nil => exact absurd hk (by simp)
    | cons q rest =>
      cases k with
      | zero => exact if_pos hhigh
      | succ k =>
        have hq : q.speed ≤ v := (Rising.head_le hl.of_cons _ (List.getElem_mem _)).trans hlow
        rw [readCurve_passes hq]
        exact ih hl.of_cons (Nat.lt_of_succ_lt_succ hk) hlow hhigh

section
variable {c : CurveTable}

theorem CurveTable.curve_length (hc : c.count ≤ 16) : c.curve.length = c.count := by
  simp [CurveTable.curve, hc]

theorem CurveTable.curve_get {k : Nat} (hk : k < c.curve.length) : c.curve[k] = c.points.toList.getD k ⟨0, 0⟩ := by
  have h : k < c.points.toList.length := hk.trans_le (List.length_take_le' ..)
  simp only [CurveTable.curve, List.getElem_take, List.getD_eq_getElem _ _ h]

theorem CurveTable.curve_rising (hc : c.count ≤ 16)
    (h : ∀ k, k + 1 < c.count → (c.points.toList.getD k ⟨0, 0⟩).speed < (c.points.toList.getD (k + 1) ⟨0, 0⟩).speed) :
    Rising c.curve :=
  rising_of_steps fun k hk => by
    rw [CurveTable.curve_get, CurveTable.curve_get]
    exact h k (CurveTable.curve_length hc ▸ hk)

theorem capability_last (hr : Rising c.curve) (hl : c.curve.length = c.count) (hc : 0 < c.count) {limit v : Nat}
    (hv : (c.points.toList.getD (c.count - 1) ⟨0, 0⟩).speed ≤ v) :
    capability c limit v = min (c.points.toList.getD (c.count - 1) ⟨0, 0⟩).effort limit := by
  have hne : c.curve ≠ [] := List.ne_nil_of_length_pos (hl ▸ hc)
  have hlast : c.curve.getLast hne = c.points.toList.getD (c.count - 1) ⟨0, 0⟩ := by
    rw [List.getLast_eq_getElem, CurveTable.curve_get, hl]
  rw [capability, readCurve_last hr hne (hlast ▸ hv), hlast, Int.toNat_natCast]

theorem capability_between (hr : Rising c.curve) {limit k v : Nat} (hk : k + 1 < c.curve.length)
    (hlow : (c.points.toList.getD k ⟨0, 0⟩).speed ≤ v) (hhigh : v < (c.points.toList.getD (k + 1) ⟨0, 0⟩).speed) :
    capability c limit v =
      min (interpolate (c.points.toList.getD k ⟨0, 0⟩) (c.points.toList.getD (k + 1) ⟨0, 0⟩) v).toNat limit := by
  rw [← CurveTable.curve_get (Nat.lt_of_succ_lt hk)] at hlow ⊢
  rw [← CurveTable.curve_get hk] at hhigh ⊢
  rw [capability, readCurve_between hr hk hlow hhigh]

end

/-! ## Availability (R73, R74) -/

/-- The limits that are present reduce a value one after the other. -/
theorem foldl_min_present (v : Nat) (a b c : Option Nat) :
    ([a, b, c].filterMap id).foldl min v = limited (limited (limited v a) b) c := by
  cases a <;> cases b <;> cases c <;> rfl

theorem derating_eq (degraded : Nat) (present : Bool) (x : NodeState) : derating degraded present x =
    if present then (match x with
      | .active => 256 | .degraded => degraded | .absent => 0 | .joining => 0 | .lost => 0 | .cutOut => 0)
    else 0 := by
  cases x <;> rfl

/-- The availability as the capability derated and reduced to the limits that are present. -/
theorem State.availability_eq (s : State) (v : Nat) (i : AxleSlot) : s.availability v i =
    if s.speed.ref.state = .invalid then 0
    else ([s.slide.axles[i].limit, s.slide.axles[i].ceiling, (s.node (inverterOf i)).cap].filterMap id).foldl min
      (capability s.tables.curve s.tables.blend.axleLimit v *
        derating s.tables.blend.degraded s.tables.node[inverterOf i].present (s.node (inverterOf i)).sup.state / 256) := by
  rw [foldl_min_present]
  rfl

/-! ## The target computation -/

theorem modeUsed_eq (m : Mode) (b : Bool) :
    modeUsed m b = if b = true ∧ (m = .blended ∨ m = .dynamicOnly) then .airOnly else m := by
  cases b <;> cases m <;> rfl

theorem State.nodeInService_eq (s : State) (n : NodeSlot) : s.nodeInService n = decide (s.serves n) := by
  simp only [State.nodeInService, NodeState.inService_eq, State.serves, Bool.decide_and, Bool.decide_or, Bool.decide_eq_true]
  rfl

theorem State.truckAir_eq (s : State) (k : TruckSlot) : s.truckAir k =
    if s.serves (valveOf k) then ((s.node (valveOf k)).achieved.map (effortOf s.tables.truck[k])).getD 0 else 0 := by
  simp only [State.truckAir, State.nodeInService_eq, decide_eq_true_eq]
  cases (s.node (valveOf k)).achieved <;> rfl

theorem State.achievedEffort_eq (s : State) (i : AxleSlot) : s.achievedEffort i =
    if s.serves (inverterOf i) then (s.node (inverterOf i)).achieved.getD 0 else 0 := by
  simp only [State.achievedEffort, State.nodeInService_eq, decide_eq_true_eq]

/-- Settles O28: the shares by the trucks that are eligible, the curve by its rising speeds, and the stages of the computation
one by one, each node in service as R78, R82 and R85 word it. -/
theorem airTargetIsSharedAndAchieved : Obligations.AirTargetIsSharedAndAchieved := by
  refine ⟨fun target c1 c2 e1 e2 => ?_, fun c limit v => ?_, fun s v i => ?_, fun s => ?_, fun s unplaced => rfl⟩
  · intro x
    obtain ⟨hcap1, hcap2, hnone1, hnone2, hsum⟩ := split_places target c1 c2 e1 e2
    refine ⟨hcap1, hcap2, hnone1, hnone2, hsum, ?_, ?_, ?_, ?_⟩
    · rintro rfl rfl hc1 hc2
      exact split_halves target c1 c2 hc1 hc2
    · rintro rfl rfl
      exact split_both target c1 c2
    · rintro rfl rfl
      exact split_first target c1 c2
    · rintro rfl rfl
      exact split_second target c1 c2
  · intro p h2 h16 h0 hrise
    have hlength := CurveTable.curve_length h16
    have hrising := CurveTable.curve_rising h16 hrise
    exact ⟨capability_last hrising hlength (by omega), fun k hk => capability_between hrising (hlength ▸ hk)⟩
  · intro factor limits
    have hfactor : derating s.tables.blend.degraded s.tables.node[inverterOf i].present
        (s.node (inverterOf i)).sup.state = factor := derating_eq ..
    exact hfactor ▸ s.availability_eq v i
  · intro g b speed nowSum predSum effort eligible cap shares air
    have hair (k : TruckSlot) : air k = s.truckAir k := by
      rw [s.truckAir_eq]
      show (if s.serves (valveOf k) then _ else 0) = _
      cases (s.node (valveOf k)).achieved <;> rfl
    have hshares : shares = s.shares g.totals.airTarget := by
      simp only [State.shares, State.nodeInService_eq]
      rfl
    refine ⟨?_, ?_, ?_, ?_, fun k => ?_, ?_, ?_, ?_, rfl⟩
    · exact modeUsed_eq ..
    · show demandedEffort g.mode s.demand.eff.level b.fullService = _
      cases g.mode <;> rfl
    · rfl
    · rw [hshares]; rfl
    · rw [hshares]; exact vec2_get _ k
    · rw [hair, hair]; rfl
    · rfl
    · exact congrArg sum6 (funext s.achievedEffort_eq)

end Sys2Proof.Machine

/-! The axle targets of an epoch: first targets rounded down, the remainder handed out, and the dynamic target they sum to (R83,
R84). -/

namespace Sys2Proof.Machine

/-! ## The remainder (R84) -/

/-- Handing out a remainder adds one unit for each axle below its availability, as far as the remainder reaches. -/
theorem giveRemainder_sum (r : Nat) (l : List (Nat × Nat)) :
    (giveRemainder r l).sum = (l.map Prod.snd).sum + min r (l.countP fun p => p.2 < p.1) := by
  induction l generalizing r with
  | nil => simp [giveRemainder]
  | cons p l ih =>
    cases r with
    | zero => simp [giveRemainder, ih]
    | succ r =>
      by_cases h : p.2 < p.1
      · simp only [giveRemainder, if_pos h, List.sum_cons, ih, List.map_cons, List.countP_cons, decide_eq_true h, if_true]
        omega
      · simp [giveRemainder, h, ih, Nat.add_assoc]

theorem giveRemainder_length (r : Nat) (l : List (Nat × Nat)) : (giveRemainder r l).length = l.length := by
  induction l generalizing r with
  | nil => rfl
  | cons p l ih =>
    cases r with
    | zero => simp [giveRemainder, ih]
    | succ r =>
      rw [giveRemainder]
      split <;> simp [ih]

/-- Where no first target exceeds its availability, no target does. -/
theorem giveRemainder_le {l : List (Nat × Nat)} (h : ∀ p ∈ l, p.2 ≤ p.1) (r k : Nat) :
    (giveRemainder r l).getD k 0 ≤ (l.map Prod.fst).getD k 0 := by
  induction l generalizing r k with
  | nil => simp [giveRemainder]
  | cons p l ih =>
    obtain ⟨hp, hl⟩ := List.forall_mem_cons.1 h
    cases r with
    | zero =>
      cases k with
      | zero => exact hp
      | succ k => exact ih hl 0 k
    | succ r =>
      rw [giveRemainder]
      split
      · cases k with
        | zero => exact ‹p.2 < p.1›
        | succ k => exact ih hl r k
      · cases k with
        | zero => exact hp
        | succ k => exact ih hl (r + 1) k

/-! ## First targets (R84) -/

section
variable {dyn total : Nat}

theorem firstTarget_eq (ht : 0 < total) (a : Nat) : firstTarget dyn total a = dyn * a / total := if_neg ht.ne'

theorem mul_firstTarget_le (ht : 0 < total) (a : Nat) : total * firstTarget dyn total a ≤ dyn * a := by
  rw [firstTarget_eq ht]
  exact Nat.mul_div_le _ _

theorem firstTarget_le (ht : 0 < total) (hd : dyn ≤ total) (a : Nat) : firstTarget dyn total a ≤ a :=
  Nat.le_of_mul_le_mul_left ((mul_firstTarget_le ht a).trans (Nat.mul_le_mul_right a hd)) ht

/-- A first target falls short of its exact share by less than one unit, and an axle at its availability by nothing. -/
theorem mul_le_firstTarget (ht : 0 < total) (hd : dyn ≤ total) (a : Nat) :
    dyn * a ≤ total * (firstTarget dyn total a + if firstTarget dyn total a < a then 1 else 0) := by
  split
  · rw [firstTarget_eq ht]
    exact (Nat.lt_mul_div_succ _ ht).le
  · rw [Nat.le_antisymm (firstTarget_le ht hd a) (Nat.not_lt.1 ‹_›)]
    exact Nat.mul_le_mul_right a hd

variable {ι : Type} (avail : ι → Nat) (l : List ι)

theorem mul_sum_firstTarget_le (ht : 0 < total) :
    total * (l.map fun i => firstTarget dyn total (avail i)).sum ≤ dyn * (l.map avail).sum := by
  rw [← List.sum_map_mul_left, ← List.sum_map_mul_left]
  exact List.sum_le_sum fun i _ => mul_firstTarget_le ht (avail i)

theorem mul_sum_le_firstTarget (ht : 0 < total) (hd : dyn ≤ total) :
    dyn * (l.map avail).sum ≤ total * ((l.map fun i => firstTarget dyn total (avail i)).sum +
      l.countP fun i => firstTarget dyn total (avail i) < avail i) := by
  induction l with
  | nil => simp
  | cons i l ih =>
    have hi := mul_le_firstTarget ht hd (avail i)
    simp only [List.map_cons, List.sum_cons, List.countP_cons, decide_eq_true_eq, Nat.mul_add] at hi ih ⊢
    omega

/-- Of a total that is shared out whole, the first targets leave no more than one unit for each axle below its availability. -/
theorem sum_firstTarget_bounds (ht : 0 < (l.map avail).sum) (hd : dyn ≤ (l.map avail).sum) :
    (l.map fun i => firstTarget dyn (l.map avail).sum (avail i)).sum ≤ dyn ∧
      dyn ≤ (l.map fun i => firstTarget dyn (l.map avail).sum (avail i)).sum +
        l.countP fun i => firstTarget dyn (l.map avail).sum (avail i) < avail i :=
  ⟨Nat.le_of_mul_le_mul_left ((mul_sum_firstTarget_le avail l ht).trans_eq (Nat.mul_comm ..)) ht,
    Nat.le_of_mul_le_mul_left ((Nat.mul_comm ..).trans_le (mul_sum_le_firstTarget avail l ht hd)) ht⟩

end

/-! ## The six axle targets -/

theorem sum6_eq (f : AxleSlot → Nat) : sum6 f = (axleSlots.map f).sum := by
  simp [sum6, axleSlots, Nat.add_assoc]

theorem axleSlots_map_getD (f : AxleSlot → Nat) (i : AxleSlot) : (axleSlots.map f).getD i 0 = f i := by
  fin_cases i <;> rfl

theorem sum6_getD {l : List Nat} (h : l.length = 6) : sum6 (fun i => l.getD i 0) = l.sum := by
  match l, h with
  | [a, b, c, d, e, f], _ => simp [sum6, Nat.add_assoc]

theorem distribute_of_pos {dyn : Nat} {avail : AxleSlot → Nat} (h : 0 < sum6 avail) : distribute dyn avail =
    giveRemainder (dyn - sum6 fun i => firstTarget dyn (sum6 avail) (avail i))
      (axleSlots.map fun i => (avail i, firstTarget dyn (sum6 avail) (avail i))) := if_neg h.ne'

theorem distribute_of_zero {dyn : Nat} {avail : AxleSlot → Nat} (h : sum6 avail = 0) :
    distribute dyn avail = [0, 0, 0, 0, 0, 0] := if_pos h

theorem distribute_length (dyn : Nat) (avail : AxleSlot → Nat) : (distribute dyn avail).length = 6 := by
  rcases Nat.eq_zero_or_pos (sum6 avail) with h | h
  · rw [distribute_of_zero h]
    rfl
  · rw [distribute_of_pos h, giveRemainder_length]
    rfl

/-- The six targets sum to the dynamic target when the availabilities can hold it. -/
theorem distribute_sum {dyn : Nat} {avail : AxleSlot → Nat} (hd : dyn ≤ sum6 avail) : (distribute dyn avail).sum = dyn := by
  rcases Nat.eq_zero_or_pos (sum6 avail) with h | h
  · rw [distribute_of_zero h]
    exact (Nat.le_zero.1 (hd.trans_eq h)).symm
  · rw [distribute_of_pos h, giveRemainder_sum]
    simp only [sum6_eq, List.map_map, List.countP_map, Function.comp_def] at h hd ⊢
    obtain ⟨hlow, hhigh⟩ := sum_firstTarget_bounds avail axleSlots h hd
    omega

theorem distribute_le {dyn : Nat} {avail : AxleSlot → Nat} (hd : dyn ≤ sum6 avail) (i : AxleSlot) :
    (distribute dyn avail).getD i 0 ≤ avail i := by
  rcases Nat.eq_zero_or_pos (sum6 avail) with h | h
  · rw [distribute_of_zero h]
    fin_cases i <;> exact Nat.zero_le _
  · rw [distribute_of_pos h]
    refine (giveRemainder_le ?_ _ _).trans_eq ?_
    · simpa using fun j _ => firstTarget_le h hd (avail j)
    · rw [List.map_map]
      exact axleSlots_map_getD avail i

/-! ## The dynamic target (R83) -/

theorem dynamicTarget_le_sum (m : Mode) (demanded total air full : Nat) (b : Bool) :
    dynamicTarget m demanded total air full b ≤ total := by
  cases m <;> cases b <;> simp [dynamicTarget]

/-- In EMERGENCY the demanded effort is full service, so that in every mode the dynamic target stays within it. -/
theorem dynamicTarget_le_demanded (m : Mode) (level total air full : Nat) (b : Bool) :
    dynamicTarget m (demandedEffort m level full) total air full b ≤ demandedEffort m level full := by
  cases m with
  | blended => exact (Nat.min_le_right ..).trans (Nat.sub_le ..)
  | dynamicOnly => exact Nat.min_le_right ..
  | airOnly => exact Nat.zero_le _
  | release => exact Nat.zero_le _
  | emergency => cases b <;> simp [dynamicTarget, demandedEffort]

theorem State.targets_dynamic_le_sum (s : State) : s.targets.totals.dynamic ≤ sum6 (s.availability s.epochSpeed) :=
  dynamicTarget_le_sum ..

theorem State.targets_axles (s : State) (i : AxleSlot) :
    s.targets.axles[i] = (distribute s.targets.totals.dynamic (s.availability s.epochSpeed)).getD i 0 := vec6_get _ i

/-- Settles O27: the dynamic target lies within the sum of the availabilities, so that the remainder finds room whole. -/
theorem axleTargetsSumToTheDynamicTarget : Obligations.AxleTargetsSumToTheDynamicTarget := by
  intro s g
  have hd := s.targets_dynamic_le_sum
  refine ⟨?_, dynamicTarget_le_demanded .., fun i => ?_⟩
  · calc sum6 (fun i => g.axles[i]) = (distribute g.totals.dynamic (s.availability s.epochSpeed)).sum := by
          simp only [g, s.targets_axles, sum6_getD (distribute_length ..)]
      _ = g.totals.dynamic := distribute_sum hd
  · rw [s.targets_axles]
    exact distribute_le hd i

end Sys2Proof.Machine

/-! CLEAR_FALLBACK (R89). -/

namespace Sys2Proof.Machine

/-- Settles O30: the two ways of the service, by the length of the request's arguments. -/
theorem clearFallbackClearsTheFlag : Obligations.ClearFallbackClearsTheFlag := by
  refine fun s r rest h => congrArg Host.Outcome.next ?_
  split
  · exact serve_answer h.1 (State.asks_ofKind h rfl) (if_neg (by simp [*]))
  · exact serve_refuse h.1 (State.asks_ofKind h rfl) (if_pos (by simpa using ‹_›))

end Sys2Proof.Machine

/-! The condition monitor: its judgements, its firings and its passes (R141 to R144). -/

namespace Sys2Proof.Machine

/-! ## Level conditions (R142) -/

/-- A value meets a level condition. -/
def MonEntry.Met (e : MonEntry) (v : Int) : Prop :=
  (e.condition = .above ∧ e.threshold < v) ∨ (e.condition = .below ∧ v < e.threshold)

/-- A value lies at or beyond the release level of a level condition. -/
def MonEntry.Released (e : MonEntry) (v : Int) : Prop :=
  (e.condition = .above ∧ v ≤ e.threshold - e.hysteresis) ∨ (e.condition = .below ∧ e.threshold + e.hysteresis ≤ v)

/-- A level entry judges a value by whether it meets the condition and whether it lies at or beyond the release level. -/
theorem judge_level {e : MonEntry} {v : Int} (r : RunState) [Decidable (e.Met v)] [Decidable (e.Released v)]
    (h : e.condition = .above ∨ e.condition = .below) :
    judge e v r = judgeLevel (decide (e.Met v)) (decide (e.Released v)) e.persistence r := by
  rcases h with h | h <;> simp [judge, MonEntry.Met, MonEntry.Released, h]

section
variable {e : MonEntry} {v : Int} {r : RunState} (h : e.condition = .above ∨ e.condition = .below)
include h

theorem judge_counts (ha : r.active = false) (hm : e.Met v) (hc : r.count + 1 < e.persistence) :
    judge e v r = ({ r with count := r.count + 1 }, false) := by
  classical simp [judge_level r h, judgeLevel, ha, hm, hc]

theorem judge_fires (ha : r.active = false) (hm : e.Met v) (hc : e.persistence ≤ r.count + 1) :
    judge e v r = ({ r with active := true, count := e.persistence }, true) := by
  classical simp [judge_level r h, judgeLevel, ha, hm, hc]

theorem judge_restarts (ha : r.active = false) (hm : ¬ e.Met v) (hr : e.Released v) :
    judge e v r = ({ r with count := 0 }, false) := by
  classical simp [judge_level r h, judgeLevel, ha, hm, hr]

theorem judge_waits (ha : r.active = false) (hm : ¬ e.Met v) (hr : ¬ e.Released v) : judge e v r = (r, false) := by
  classical simp [judge_level r h, judgeLevel, ha, hm, hr]

theorem judge_releases (ha : r.active = true) (hr : e.Released v) :
    judge e v r = ({ r with active := false, count := 0 }, false) := by
  classical simp [judge_level r h, judgeLevel, ha, hr]

theorem judge_stays (ha : r.active = true) (hr : ¬ e.Released v) : judge e v r = (r, false) := by
  classical simp [judge_level r h, judgeLevel, ha, hr]

end

/-! ## A sequence of values -/

/-- The run state after one more value, and whether the entry fired at each value so far. -/
def judgeNext (e : MonEntry) (a : RunState × List Bool) (v : Int) : RunState × List Bool :=
  ((judge e v a.1).1, a.2 ++ [(judge e v a.1).2])

section
variable {e : MonEntry}

theorem met_above (h : e.condition = .above) {v : Int} (hv : e.threshold < v) : e.Met v := .inl ⟨h, hv⟩

theorem not_released_above (h : e.condition = .above) {v : Int} (hv : e.threshold - e.hysteresis < v) : ¬ e.Released v := by
  simp [MonEntry.Released, h, hv]

/-- Values above the threshold are counted, and none fires, while the count stays below the persistence. -/
theorem foldl_judgeNext_counts (h : e.condition = .above) (vs : List Int) (r : RunState) (fired : List Bool)
    (ha : r.active = false) (hv : ∀ v ∈ vs, e.threshold < v) (hl : r.count + vs.length < e.persistence) :
    vs.foldl (judgeNext e) (r, fired) =
      ({ r with count := r.count + vs.length }, fired ++ List.replicate vs.length false) := by
  induction vs generalizing r fired with
  | nil => simp
  | cons v vs ih =>
    obtain ⟨hmeets, hv⟩ := List.forall_mem_cons.1 hv
    rw [List.length_cons] at hl
    have hrest := ih { r with count := r.count + 1 } (fired ++ [false]) ha hv (by simp only; omega)
    rw [List.foldl_cons, judgeNext, judge_counts (.inl h) ha (met_above h hmeets) (by omega), hrest]
    simp [List.replicate_succ, Nat.add_assoc, Nat.add_comm 1]

/-- An active entry neither changes nor fires while every value stays above the release level. -/
theorem foldl_judgeNext_stays (h : e.condition = .above) (vs : List Int) (r : RunState) (fired : List Bool)
    (ha : r.active = true) (hv : ∀ v ∈ vs, e.threshold - e.hysteresis < v) :
    vs.foldl (judgeNext e) (r, fired) = (r, fired ++ List.replicate vs.length false) := by
  induction vs generalizing fired with
  | nil => simp
  | cons v vs ih =>
    obtain ⟨hstays, hv⟩ := List.forall_mem_cons.1 hv
    rw [List.foldl_cons, judgeNext, judge_stays (.inl h) ha (not_released_above h hstays), ih _ hv]
    simp [List.replicate_succ]

/-- The entry fires at the last of as many values above its threshold as its persistence asks for. -/
theorem foldl_judgeNext_fires (h : e.condition = .above) {vs : List Int} {r : RunState} (hp : 1 ≤ e.persistence)
    (ha : r.active = false) (hc : r.count = 0) (hv : ∀ v ∈ vs, e.threshold < v) (hl : vs.length = e.persistence) :
    vs.foldl (judgeNext e) (r, []) =
      ({ r with active := true, count := e.persistence }, List.replicate (e.persistence - 1) false ++ [true]) := by
  obtain rfl | ⟨ws, v, rfl⟩ := vs.eq_nil_or_concat'
  · exact absurd (hl ▸ hp) (by simp)
  · obtain ⟨hws, hmeets⟩ := List.forall_mem_append.1 hv
    have hlength : ws.length + 1 = e.persistence := by simpa using hl
    have hlast : judge e v { r with count := r.count + ws.length } =
        ({ r with active := true, count := e.persistence }, true) :=
      judge_fires (.inl h) ha (met_above h (hmeets v (List.mem_singleton_self v))) (by simp only; omega)
    rw [List.foldl_append, foldl_judgeNext_counts h ws r [] ha hws (by omega), List.foldl_cons, List.foldl_nil, judgeNext, hlast,
      ← hlength]
    rfl

end

/-! ## Crossing conditions (R143) -/

theorem judge_crossing {e : MonEntry} (ha : e.condition ≠ .above) (hb : e.condition ≠ .below) (v : Int) (r : RunState) :
    judge e v r = fireCrossing e.persistence (moveCrossing e v r) := by
  cases h : e.condition <;> simp_all [judge]

/-- A change of side counts for a crossing up when it ends high, for a crossing down when it ends low, for either otherwise. -/
theorem inDirection_iff {c : MonCondition} (ha : c ≠ .above) (hb : c ≠ .below) (x : Side) :
    inDirection c x = true ↔ c = .crossAny ∨ (c = .crossUp ∧ x = .high) ∨ (c = .crossDown ∧ x = .low) := by
  cases c <;> cases x <;> simp_all [inDirection]

/-! ## Firing (R144) -/

theorem State.setFallback_eq (s : State) : s.setFallback =
    if s.blend.fallback = false then State.raise .fallbackSet { s with blend := { s.blend with fallback := true } } else s := by
  cases h : s.blend.fallback <;> simp [State.setFallback, h]

/-- The event, then the trigger, then the air-fallback flag, each as the entry asks. -/
theorem State.fire_eq (m : Fin 8) (e : MonEntry) (s : State) : s.fire m e =
    let raised := if e.event then s.raise (.monitor m) else s
    let recorded := if e.record then raised.trigger (.monitor m) else raised
    if e.airFallback = true ∧ recorded.blend.fallback = false then
      State.raise .fallbackSet { recorded with blend := { recorded.blend with fallback := true } }
    else recorded := by
  unfold State.fire
  cases e.airFallback with
  | false => simp
  | true => simp only [if_true, true_and, State.setFallback_eq]

/-! ## A pass (R141, R144) -/

theorem State.monitorPass_run {s : State} (u : Updates) (h : s.agent.part = .run) : s.monitorPass u =
    match (monitorEntries.foldl (State.passEntry u) (s, none)).2 with
    | none => (monitorEntries.foldl (State.passEntry u) (s, none)).1
    | some m => (monitorEntries.foldl (State.passEntry u) (s, none)).1.enterFailsafe .monitor m.val :=
  if_pos (by simp [State.running, h])

section
variable {u : Updates} {a : State × Option (Fin 8)} {m : Fin 8}

theorem State.passEntry_unwatched (h : u.find? (fun p => p.1 = a.1.tables.monitor[m].source) = none) :
    State.passEntry u a m = a := by
  unfold State.passEntry Updates.value
  simp only [h, Option.map_none]

theorem State.passEntry_disabled (h : a.1.tables.monitor[m].enabled = false) : State.passEntry u a m = a := by
  unfold State.passEntry
  simp only [h]
  split <;> rfl

/-- An enabled entry of an updated source keeps its new run state, and fires when its judgement says so. -/
theorem State.passEntry_judged {p : MonSource × Int} (h : u.find? (fun p => p.1 = a.1.tables.monitor[m].source) = some p)
    (he : a.1.tables.monitor[m].enabled = true) :
    State.passEntry u a m =
      let e := a.1.tables.monitor[m]
      let j := judge e p.2 a.1.monitor.runs[m]
      let kept := a.1.setRun m j.1
      if j.2 then (kept.fire m e, if e.failsafe then a.2 <|> some m else a.2) else (kept, a.2) := by
  unfold State.passEntry Updates.value
  simp only [h, Option.map_some, he, if_true]

end

/-- A pass over one entry that keeps every entry that asked for FAILSAFE so far, in entry order. -/
def State.passAsked (u : Updates) (a : State × List (Fin 8)) (m : Fin 8) : State × List (Fin 8) :=
  let e := a.1.tables.monitor[m]
  match u.find? (fun p => p.1 = e.source), e.enabled with
  | none, _ => a
  | some _, false => a
  | some p, true =>
    let j := judge e p.2 a.1.monitor.runs[m]
    let kept := a.1.setRun m j.1
    if j.2 then (kept.fire m e, if e.failsafe then a.2 ++ [m] else a.2) else (kept, a.2)

/-- The lowest entry that asked is the first of them. -/
theorem State.passEntry_head (u : Updates) (a : State × List (Fin 8)) (m : Fin 8) :
    State.passEntry u (a.1, a.2.head?) m = ((State.passAsked u a m).1, (State.passAsked u a m).2.head?) := by
  cases hf : u.find? (fun p => p.1 = a.1.tables.monitor[m].source) with
  | none =>
    rw [State.passEntry_unwatched hf]
    simp only [State.passAsked, hf]
  | some p =>
    cases he : a.1.tables.monitor[m].enabled with
    | false =>
      rw [State.passEntry_disabled he]
      simp only [State.passAsked, hf, he]
    | true =>
      rw [State.passEntry_judged hf he]
      simp only [State.passAsked, hf, he]
      split
      · split <;> simp [List.head?_append]
      · rfl

theorem State.foldl_passEntry (u : Updates) (s : State) : monitorEntries.foldl (State.passEntry u) (s, none) =
    ((monitorEntries.foldl (State.passAsked u) (s, [])).1, (monitorEntries.foldl (State.passAsked u) (s, [])).2.head?) :=
  List.foldl_hom (init := (s, [])) (fun a : State × List (Fin 8) => (a.1, a.2.head?)) (State.passEntry_head u)

/-- Settles O40: the level entries by their judgement of one value and of a sequence, the crossing entries by their side, and the
pass by the entries that ask for FAILSAFE, of which it keeps the first. -/
theorem monitorEntriesFire : Obligations.MonitorEntriesFire := by
  refine ⟨fun e r vs habove hp => ?_, fun e v r hlevel => ?_, fun e v r ha hb => ?_, State.fire_eq, fun u s => ?_,
    fun s => rfl⟩
  · intro final
    refine ⟨fun ha hc hv hl => ?_, fun ha hv => ?_⟩
    · have hfinal : final = _ := foldl_judgeNext_fires habove hp ha hc hv hl
      rw [hfinal]
      exact ⟨rfl, rfl, rfl⟩
    · have hfinal : final = _ := foldl_judgeNext_stays habove vs r [] ha hv
      rw [hfinal]
      exact ⟨rfl, rfl⟩
  · exact ⟨judge_counts hlevel, judge_fires hlevel, judge_restarts hlevel, judge_waits hlevel, judge_releases hlevel,
      judge_stays hlevel⟩
  · intro side inBand wanted moved
    rw [judge_crossing ha hb]
    have hside : sideOf e.threshold e.hysteresis v r.side = side := rfl
    have hband : (e.threshold + e.hysteresis < v ∨ v < e.threshold - e.hysteresis) ↔ ¬ inBand := by
      simp only [inBand]; omega
    have hmoved : moveCrossing e v r = moved := by
      simp only [moveCrossing, hside, hband, inDirection_iff ha hb]
      rfl
    rw [hmoved, fireCrossing]
  · intro one pass
    have hpass : monitorEntries.foldl (State.passEntry u) (s, none) = (pass.1, pass.2.head?) := State.foldl_passEntry u s
    refine ⟨State.monitorPass_outside u, fun hr => ?_⟩
    rw [State.monitorPass_run u hr, hpass]
    cases pass.2 <;> rfl

end Sys2Proof.Machine

/-! The ramp stage: how far an output moves toward its target in one epoch (R95 to R100). -/

namespace Sys2Proof.Machine

/-! ## The steps of a ramp (R95, R96) -/

theorem rampStep_mono {x y : Nat} (ms : Nat) (h : x ≤ y) : rampStep x ms ≤ rampStep y ms :=
  Nat.div_le_div_right (Nat.mul_le_mul_right ms h)

theorem wantedSlope_le_application (set : RampSet) (ms target output : Nat) : wantedSlope set ms target output ≤ set.application :=
  Nat.min_le_left ..

theorem newSlope_le_wantedSlope (set : RampSet) (ms target output slope : Nat) :
    newSlope set ms target output slope ≤ wantedSlope set ms target output := by
  unfold newSlope
  split
  · exact le_rfl
  · exact Nat.min_le_left ..

theorem newSlope_le_application (set : RampSet) (ms target output slope : Nat) :
    newSlope set ms target output slope ≤ set.application :=
  (newSlope_le_wantedSlope ..).trans (wantedSlope_le_application ..)

theorem newSlope_le_of_jerk {set : RampSet} (h : set.jerk ≠ 0) (ms target output slope : Nat) :
    newSlope set ms target output slope ≤ slope + rampStep set.jerk ms :=
  (if_neg h).trans_le (Nat.min_le_right ..)

/-! ## One axle (R95 to R99) -/

section
variable {set : RampSet} {ms target : Nat} {a : AxleDrive}

/-- The node bypass decides before the slide state is looked at (R98). -/
theorem rampAxle_nodeBypass (relief : Bool) :
    rampAxle set ms true relief target a = { target := target, output := 0, slope := 0 } := rfl

/-- The RELIEF bypass (R99). -/
theorem rampAxle_reliefBypass :
    rampAxle set ms false true target a = { target := target, output := min a.output target, slope := 0 } := rfl

/-- A rise: the new slope is formed, and the output goes up by its step (R96). -/
theorem rampAxle_rises (h : a.output < target) : rampAxle set ms false false target a =
    { target := target, slope := newSlope set ms target a.output a.slope
      output := min target (a.output + rampStep (newSlope set ms target a.output a.slope) ms) } :=
  if_pos h

/-- A fall: the slope is lost, and the output goes down by the release step (R97). -/
theorem rampAxle_falls (h : target < a.output) : rampAxle set ms false false target a =
    { target := target, slope := 0, output := max target (a.output - rampStep set.release ms) } :=
  (if_neg h.not_gt).trans (if_pos h)

theorem rampAxle_stays (h : target = a.output) :
    rampAxle set ms false false target a = { target := target, slope := 0, output := a.output } :=
  (if_neg h.le.not_gt).trans (if_neg h.ge.not_gt)

/-- Going up, the output neither falls, nor passes the target, nor exceeds the step of the application rate. -/
theorem rampAxle_bounds_up (h : a.output ≤ target) :
    a.output ≤ (rampAxle set ms false false target a).output ∧ (rampAxle set ms false false target a).output ≤ target ∧
      (rampAxle set ms false false target a).output ≤ a.output + rampStep set.application ms := by
  rcases h.lt_or_eq with hlt | heq
  · have hstep := rampStep_mono ms (newSlope_le_application set ms target a.output a.slope)
    rw [rampAxle_rises hlt]
    simp only
    omega
  · rw [rampAxle_stays heq.symm]
    simp only
    omega

/-- Going down, the output neither rises, nor passes the target, nor falls by more than the release step. -/
theorem rampAxle_bounds_down (h : target ≤ a.output) :
    target ≤ (rampAxle set ms false false target a).output ∧ (rampAxle set ms false false target a).output ≤ a.output ∧
      a.output ≤ (rampAxle set ms false false target a).output + rampStep set.release ms := by
  rcases h.lt_or_eq with hlt | heq
  · rw [rampAxle_falls hlt]
    simp only
    omega
  · rw [rampAxle_stays heq]
    simp only
    omega

/-- The slope after the ramp is the new slope of a rise, and 0 otherwise. -/
theorem rampAxle_slope : (rampAxle set ms false false target a).slope =
    if a.output < target then newSlope set ms target a.output a.slope else 0 := by
  rcases lt_trichotomy a.output target with h | h | h
  · rw [rampAxle_rises h, if_pos h]
  · rw [rampAxle_stays h.symm, if_neg h.ge.not_gt]
  · rw [rampAxle_falls h, if_neg h.not_gt]

theorem rampAxle_slope_le_newSlope :
    (rampAxle set ms false false target a).slope ≤ newSlope set ms target a.output a.slope := by
  rw [rampAxle_slope]
  split
  · exact le_rfl
  · exact Nat.zero_le _

end

/-! ## One truck (R100) -/

section
variable {set : RampSet} {ms emergency target : Nat} {m : Mode} {r : Relief} {p : TruckDrive}

theorem rampTruck_vents (h : r = .vent) : rampTruck set ms m r emergency target p = { target := target, output := 0 } :=
  if_pos h

theorem rampTruck_emergency (hm : m = .emergency) (hr : r = .calm) :
    rampTruck set ms m r emergency target p = { target := target, output := emergency } :=
  (if_neg (by simp [hr])).trans (if_pos ⟨hm, hr⟩)

/-- A truck neither in VENT nor in EMERGENCY without a relief request moves toward its target by the air steps. -/
theorem rampTruck_moves (hv : r ≠ .vent) (he : ¬ (m = .emergency ∧ r = .calm)) : rampTruck set ms m r emergency target p =
    if p.output < target then { target := target, output := min target (p.output + rampStep set.airApplication ms) }
    else if target < p.output then { target := target, output := max target (p.output - rampStep set.airRelease ms) }
    else { target := target, output := p.output } :=
  (if_neg hv).trans (if_neg he)

end

/-! ## The stage over the state -/

theorem State.nodeBypass_eq (s : State) (i : AxleSlot) : s.nodeBypass i = decide (¬ s.serves (inverterOf i)) := by
  rw [State.nodeBypass, State.nodeInService_eq, decide_not]

theorem State.inRelief_eq (s : State) (i : AxleSlot) : s.inRelief i = decide (s.slide.axles[i].state = .relief) :=
  beq_eq_decide ..

/-- Settles O29: an axle's cases and bounds by where its output lies against the target, a truck's by its request and mode, and the
stage by its two conditions on the state. -/
theorem outputsMoveByTheirSteps : Obligations.OutputsMoveByTheirSteps := by
  refine ⟨fun set ms target a => ⟨rampAxle_nodeBypass, rampAxle_reliefBypass, rampAxle_rises, rampAxle_falls,
      rampAxle_stays, rampAxle_bounds_up, rampAxle_bounds_down, fun hj => rampAxle_slope_le_newSlope.trans (newSlope_le_of_jerk hj ..),
      rampAxle_slope_le_newSlope.trans (newSlope_le_application ..)⟩,
    fun set ms emergency target m r p => ⟨rampTruck_vents, rampTruck_emergency, fun hv he => ?_⟩, fun g ms s => ?_⟩
  · rw [rampTruck_moves hv he]
    exact ⟨fun h => if_pos h, fun h => (if_neg h.not_gt).trans (if_pos h),
      fun h => (if_neg h.le.not_gt).trans (if_neg h.ge.not_gt)⟩
  · simp only [State.ramp, State.nodeBypass_eq, State.inRelief_eq]

end Sys2Proof.Machine

/-! An axle has a slide limit exactly when it is not NORMAL, and its limit never exceeds its adhesion ceiling (R111 to R117), after
every step: an entry into RELIEF takes the ceiling as its bound, a deepening lowers the limit, because the relief factor stays below
256 (R169), and a raise that reaches the ceiling ends the limit. -/

namespace Sys2Proof.Machine

/-! ## One axle's slide part (R105) -/

namespace AxleSlide.Sound

variable {a : AxleSlide}

/-- A NORMAL axle without a limit. -/
theorem of_normal (hs : a.state = .normal) (hl : a.limit = none) : a.Sound := (if_pos hs).mpr hl

/-- An axle away from NORMAL, its limit under its ceiling. -/
theorem of_under {l c : Nat} (hs : a.state ≠ .normal) (hl : a.limit = some l) (hc : a.ceiling = some c) (h : l ≤ c) : a.Sound :=
  (if_neg hs).mpr ⟨l, c, hl, hc, h⟩

theorem limit_eq_none (h : a.Sound) (hs : a.state = .normal) : a.limit = none := (if_pos hs).mp h

theorem limit_le_ceiling (h : a.Sound) (hs : a.state ≠ .normal) : ∃ l c, a.limit = some l ∧ a.ceiling = some c ∧ l ≤ c :=
  (if_neg hs).mp h

end AxleSlide.Sound

/-! ## The slide cycle (R110 to R115) -/

section
variable {set : SlideSet} {axleLimit ref y : Nat} {now : Count} {g : GoodEntry} {a : AxleSlide}

/-- A factor below 256 lowers an effort. -/
theorem scaled_le {factor : Nat} (h : factor ≤ 255) (v : Nat) : scaled v factor ≤ v := by
  unfold scaled
  have := Nat.mul_le_mul_left v h
  omega

/-- A deepened limit stays under the ceiling (R113, R114). -/
theorem AxleSlide.Sound.deepen (h : a.Sound) (hs : a.state ≠ .normal) (hf : set.reliefFactor ≤ 255) {b : AxleSlide}
    (hb : b.state ≠ .normal) (hl : b.limit = deepened set a) (hc : b.ceiling = a.ceiling) : b.Sound := by
  obtain ⟨l, c, hal, hac, hle⟩ := h.limit_le_ceiling hs
  exact .of_under hb (hl.trans (by rw [deepened, hal]; rfl)) (hc.trans hac) ((scaled_le hf l).trans hle)

theorem AxleSlide.Sound.toHold (h : a.Sound) (hs : a.state ≠ .normal) : (a.toHold set now).Sound := by
  obtain ⟨l, c, hl, hc, hle⟩ := h.limit_le_ceiling hs
  exact .of_under (nomatch ·) hl hc hle

/-- NORMAL: an axle that enters RELIEF takes the ceiling as a bound of its limit; another has no limit (R110 to R112). -/
theorem evalNormal_sound (h : a.Sound) (hs : a.state = .normal) : (evalNormal set axleLimit ref y g a).Sound := by
  by_cases ho : onsetMet set ref g = true
  · rcases Nat.lt_or_ge (a.onset + 1) set.onsetCount with hn | hn
    · rw [evalNormal_counts ho hn]
      exact .of_normal hs (h.limit_eq_none hs)
    · rw [evalNormal_enters ho hn]
      exact .of_under (nomatch ·) rfl rfl (Nat.min_le_right ..)
  · rw [evalNormal_calm ho]
    exact .of_normal hs (h.limit_eq_none hs)

/-- RELIEF: the limit is deepened or stands (R113). -/
theorem evalRelief_sound (hf : set.reliefFactor ≤ 255) (h : a.Sound) (hs : a.state = .relief) :
    (evalRelief set now ref g a).Sound := by
  have hne : a.state ≠ .normal := by simp [hs]
  unfold evalRelief
  split
  · exact h.toHold hne
  · split
    · exact h.deepen hne hf hne rfl rfl
    · split
      · exact h.toHold hne
      · exact h

/-- HOLD: the limit is deepened or stands (R114). -/
theorem evalHold_sound (hf : set.reliefFactor ≤ 255) (h : a.Sound) (hs : a.state = .hold) : (evalHold set ref g a).Sound := by
  by_cases ho : onsetMet set ref g = true
  · rw [evalHold_onset ho]
    exact h.deepen (by simp [hs]) hf (nomatch ·) rfl rfl
  · rwa [evalHold_calm ho]

/-- REAPPLY: a new RELIEF is bounded by the lowered ceiling; a raise stays below the ceiling or ends the limit (R115). -/
theorem evalReapply_sound (h : a.Sound) (hs : a.state = .reapply) : (evalReapply set ref y g a).Sound := by
  have hne : a.state ≠ .normal := by simp [hs]
  obtain ⟨l, c, hl, hc, -⟩ := h.limit_le_ceiling hne
  by_cases ho : onsetMet set ref g = true
  · rw [evalReapply_onset hl ho]
    exact .of_under (nomatch ·) rfl rfl (Nat.min_le_right ..)
  · rcases Nat.lt_or_ge (l + grown set.reapplyRate g.gap) c with hlt | hge
    · rw [evalReapply_raises hl hc ho hlt]
      exact .of_under hne rfl hc hlt.le
    · rw [evalReapply_reaches hl hc ho hge]
      exact .of_normal rfl rfl

/-- The hold timer's expiry leaves limit and ceiling as they stand, or ends the limit (R114). -/
theorem holdExpired_sound (h : a.Sound) : (holdExpired set now a).Sound := by
  unfold holdExpired
  split
  · split
    · rename_i hl hc
      split
      · exact .of_under (nomatch ·) hl hc (Nat.le_of_lt ‹_›)
      · exact .of_normal rfl rfl
    · exact .of_normal rfl rfl
  · exact h

end

/-- An evaluation follows the rule of the axle's state, or brings the axle to rest (R108). -/
theorem State.evaluated_sound {s : State} {g : GoodEntry} (hf : s.tables.slide.reliefFactor ≤ 255)
    (h : s.slide.axles[g.axle].Sound) : (s.evaluated g).Sound := by
  by_cases hactive : s.evaluationActive g.axle = true
  · cases hs : s.slide.axles[g.axle].state with
    | normal => exact State.evaluated_normal hactive hs ▸ evalNormal_sound h hs
    | relief => exact State.evaluated_relief hactive hs ▸ evalRelief_sound hf h hs
    | hold => exact State.evaluated_hold hactive hs ▸ evalHold_sound hf h hs
    | reapply => exact State.evaluated_reapply hactive hs ▸ evalReapply_sound h hs
  · exact State.evaluated_inactive hactive ▸ .of_normal rfl rfl

/-! ## The relief factor under WRITE_ENTRY (R169) -/

/-- A write of another table's entry leaves the SLIDE set alone. -/
theorem Tables.withFields_slide {own : Byte} {t u : Tables} {e : TableRef} {vs : List Nat} (h : t.withFields own e vs = some u)
    (he : e ≠ .slide) : u.slide = t.slide := by
  cases e with
  | slide => exact absurd rfl he
  | classify | node | monitor =>
    obtain ⟨_, -, rfl⟩ := Option.map_eq_some_iff.1 h
    rfl
  | link =>
    obtain ⟨-, hu⟩ := Option.ite_none_left_eq_some.1 h
    obtain rfl := Option.some.inj hu
    rfl
  | axle | curvePoint | curveCount | blend | truck | ramp | speed | recorder | time =>
    obtain rfl := Option.some.inj h
    rfl

theorem reliefFactor_powerOn : Tables.powerOn.slide.reliefFactor ≤ 255 := by decide

/-- A written relief factor lies in its range. -/
theorem Tables.reliefFactor_written {own : Byte} {t u : Tables} {e : TableRef} {data : List Byte}
    (h : t.written own e data = some u) (ht : t.slide.reliefFactor ≤ 255) : u.slide.reliefFactor ≤ 255 := by
  obtain ⟨hranges, hfields⟩ := Option.ite_none_right_eq_some.1 h
  by_cases he : e = .slide
  · subst he
    obtain rfl := Option.some.inj hfields
    exact fieldAt_le_of_inRanges (k := 6) hranges rfl
  · rw [Tables.withFields_slide hfields he]
    exact ht

/-! ## The invariant -/

namespace State.SlideSound

variable {s t : State}

/-- Soundness is a matter of the axles' slide parts and of the relief factor. -/
theorem of_blocks (hs : s.SlideSound) (ha : t.slide.axles = s.slide.axles := by simp) (ht : t.tables = s.tables := by simp) :
    t.SlideSound :=
  ⟨fun i => by simpa only [ha] using hs.axles i, by rw [ht]; exact hs.factor⟩

/-- A sound change of one axle's slide part. -/
theorem onAxleSlide (hs : s.SlideSound) (i : AxleSlot) {f : AxleSlide → AxleSlide}
    (hf : s.slide.axles[i].Sound → (f s.slide.axles[i]).Sound) : (s.onAxleSlide i f).SlideSound :=
  { hs with
    axles := fun j => by
      rw [State.onAxleSlide_get]
      split
      · exact hf (hs.axles i)
      · exact hs.axles j }

/-- Every axle NORMAL, without a limit (R105). -/
theorem of_start (hf : t.tables.slide.reliefFactor ≤ 255) (hl : t.slide = SlideBlock.powerOn) : t.SlideSound :=
  ⟨fun i => by rw [hl, SlideBlock.powerOn_axle]; exact .of_normal rfl rfl, hf⟩

theorem leaveRun (hs : s.SlideSound) (p : PartState) : (s.leaveRun p).SlideSound := by
  obtain ⟨-, -, -, hslide, -⟩ := s.leaveRun_blocks p
  exact .of_start (by simpa using hs.factor) hslide

end State.SlideSound

/-- The computation of an epoch forms the trucks' relief requests, and leaves the axles' slide parts alone (R71, R118). -/
theorem State.computeEpoch_axleSlides (k : EpochKind) (s : State) : (s.computeEpoch k).slide.axles = s.slide.axles := by
  have hbegin : s.beginEpoch.slide.axles = s.slide.axles := rfl
  simpa [State.computeEpoch_ramped, State.ramped] using hbegin

theorem slideSound_keptByPasses : KeptByPasses State.SlideSound where
  drawn _ hs := hs.of_blocks
  raise _ _ hs := hs.of_blocks
  trigger _ _ _ hs := hs.of_blocks
  failsafe _ _ s _ hs := (hs.of_blocks : (State.setCause _ _ (s.trigger .failsafeEntry)).SlideSound).leaveRun .failsafe
  run _ _ _ hs := hs.of_blocks
  fallback _ _ hs := hs.of_blocks

theorem State.SlideSound.takeEpoch {s : State} (hs : s.SlideSound) (k : EpochKind) : (s.takeEpoch k).SlideSound :=
  slideSound_keptByPasses.takeEpoch (fun _ _ _ ht => ht.of_blocks) (fun _ ht => ht.of_blocks) k s
    (hs.of_blocks (s.computeEpoch_axleSlides k))

theorem slideSound_keptWithin : KeptWithin State.SlideSound where
  toKeptByPasses := slideSound_keptByPasses
  axleSpeed _ _ _ hs := hs.of_blocks
  ref _ _ hs := hs.of_blocks
  demand _ hs := hs.of_blocks
  source _ _ _ _ _ _ _ _ hs := hs.of_blocks
  restAxle i _ hs := hs.onAxleSlide i fun _ => .of_normal rfl rfl
  slip i _ _ hs := hs.onAxleSlide i id
  evaluated g _ hs := hs.onAxleSlide g.axle (State.evaluated_sound hs.factor)
  extra _ _ hs := hs.takeEpoch .extra
  report _ _ _ _ _ _ _ _ hs := hs.of_blocks
  time _ _ hs := hs.of_blocks
  overflow _ _ hs := hs.of_blocks
  unclaimed _ hs := hs.of_blocks
  demandRefused _ hs := hs.of_blocks
  sampleRefused _ hs := hs.of_blocks
  reportRefused _ hs := hs.of_blocks
  responseDropped _ hs := hs.of_blocks
  accept _ _ _ _ _ _ _ hs := hs.of_blocks
  forward _ _ _ _ hs := hs.of_blocks
  push _ _ _ hs := hs.of_blocks

/-- Every elementary effect keeps the axles' limits under their ceilings. -/
theorem slideSound_kept : Kept State.SlideSound where
  toKeptWithin := slideSound_keptWithin
  pending _ _ hs := hs.of_blocks
  powerOn _ _ _ _ := .of_start reliefFactor_powerOn rfl
  rx _ _ _ hs := hs.of_blocks
  good _ _ hs := hs.of_blocks
  badForm _ _ hs := hs.of_blocks
  badCheck _ _ hs := hs.of_blocks
  completed _ _ _ hs := hs.of_blocks
  clear _ hs := hs.of_blocks
  loseSource _ _ _ hs := hs.of_blocks
  regular _ _ hs := by
    unfold State.regularEpoch
    refine State.SlideSound.takeEpoch ?_ .regular
    exact hs.of_blocks rfl rfl
  holdExpiry i _ _ hs := hs.onAxleSlide i holdExpired_sound
  lockOut _ _ _ hs := hs.of_blocks
  missDeadline _ _ _ hs := hs.of_blocks
  controlLoss _ _ hs := hs.of_blocks
  line _ _ _ _ hs := hs.of_blocks
  pop _ hs := hs.of_blocks
  part _ _ _ _ hs := hs.of_blocks
  validation _ _ hs := hs.of_blocks
  enterRun _ _ _ hs := .of_start hs.factor rfl
  leave p _ _ _ hs := hs.leaveRun p
  write _ _ _ _ _ hw hs := { hs with factor := Tables.reliefFactor_written hw hs.factor }
  load _ _ _ hs := ⟨fun i => by rw [State.loadCount_axleSlide]; exact hs.axles i, hs.factor⟩
  readEvents _ hs := hs.of_blocks
  cut _ _ hs := hs.of_blocks
  restore _ _ hs := hs.of_blocks
  markRead _ _ hs := hs.of_blocks
  release _ _ hs := hs.of_blocks
  softReset _ _ _ _ hs _ _ _ _ := .of_start hs.factor rfl

/-- Settles O33: the rule of each slide state keeps the limit under the ceiling, and every elementary effect keeps it so. -/
theorem slideLimitStaysUnderTheCeiling : Obligations.SlideLimitStaysUnderTheCeiling :=
  slideSound_kept.step

end Sys2Proof.Machine

/-! The balance of R131, kept by every step: what a release order, a cut and a superseded exchange make of a node's records (R124,
R134, R137), and the issues and outcomes that each effect on the records counts. -/

namespace Sys2Proof.Machine

/-! ## What the order unit's operations make of the node records -/

/-- Of the state a judgement of the control-loss timer changes no more than that timer (R136). -/
theorem State.judgeControlLoss_eq (before : Nat) (s : State) : s.judgeControlLoss before =
    { s with order := { s.order with controlLoss := (s.judgeControlLoss before).order.controlLoss } } := by
  unfold State.judgeControlLoss
  repeat' split
  all_goals rfl

theorem State.judgeControlLoss_node (before : Nat) (s : State) (m : NodeSlot) : (s.judgeControlLoss before).node m = s.node m := by
  rw [State.judgeControlLoss_eq]
  rfl

/-- A release order that Port B refuses is counted for its node; an accepted one changes no record (R134, R137). -/
theorem State.offerRelease_node (s : State) (n m : NodeSlot) :
    (s.offerRelease n).node m = if n = m ∧ s.hasRoom .b = false then
        { s.node m with counts := { (s.node m).counts with releasesNotSent := (s.node m).counts.releasesNotSent + 1 } }
      else s.node m := by
  unfold State.offerRelease
  cases hroom : s.hasRoom .b with
  | true =>
    rw [if_pos rfl, if_neg (by simp)]
    exact State.node_congr (by simp) m
  | false =>
    rw [if_neg (by simp), State.onNode_node]
    by_cases hnm : n = m
    · subst hnm
      rw [if_pos rfl, if_pos ⟨rfl, rfl⟩]
    · rw [if_neg hnm, if_neg (fun h => hnm h.1)]

/-- The records of a node that is cut: its exchange abandoned, CUT_OUT with both runs 0 (R134). -/
def NodeRec.cut (r : NodeRec) : NodeRec := { r.abandon with sup := { state := .cutOut, goodRun := 0, missRun := 0 } }

/-- The node is cut and its waiting orders are withdrawn; no release order has been offered yet (R134). -/
def State.cutWithdrawn (n : NodeSlot) (s : State) : State := (s.onNode n NodeRec.cut).withdrawNode n

/-- The node is cut and, in RUN when present, has been offered its release order (R134). -/
def State.cutReleased (n : NodeSlot) (s : State) : State :=
  if s.running ∧ s.tables.node[n].present then (s.cutWithdrawn n).offerRelease n else s.cutWithdrawn n

theorem State.cutNode_already {n : NodeSlot} {s : State} (h : (s.node n).sup.state = .cutOut) : s.cutNode n = s := if_pos h

theorem State.cutNode_fresh {n : NodeSlot} {s : State} (h : (s.node n).sup.state ≠ .cutOut) :
    s.cutNode n = (s.cutReleased n).judgeControlLoss s.inService := if_neg h

theorem State.cutWithdrawn_node (n m : NodeSlot) (s : State) :
    (s.cutWithdrawn n).node m = if n = m then (s.node n).cut else s.node m :=
  (State.node_congr (by simp [State.cutWithdrawn]) m).trans (State.onNode_node n m NodeRec.cut s)

/-- A cut leaves the other nodes' records alone. -/
theorem State.cutReleased_other {n m : NodeSlot} (h : m ≠ n) (s : State) : (s.cutReleased n).node m = s.node m := by
  unfold State.cutReleased
  split
  · rw [State.offerRelease_node, if_neg (fun hr => h hr.1.symm), State.cutWithdrawn_node, if_neg h.symm]
  · rw [State.cutWithdrawn_node, if_neg h.symm]

/-- Beside the cut, no more than a refused release order changes the node's records. -/
theorem State.cutReleased_self (n : NodeSlot) (s : State) : ∃ refused : Counter, (s.cutReleased n).node n =
    { (s.node n).cut with counts := { (s.node n).cut.counts with releasesNotSent := refused } } := by
  unfold State.cutReleased
  split
  · rw [State.offerRelease_node, State.cutWithdrawn_node, if_pos rfl]
    split
    · exact ⟨_, rfl⟩
    · exact ⟨_, rfl⟩
  · rw [State.cutWithdrawn_node, if_pos rfl]
    exact ⟨_, rfl⟩

theorem State.withdrawNewest_node (n m : NodeSlot) (s : State) : (s.withdrawNewest n).node m = s.node m :=
  State.node_congr (by simp) m

/-- The records of a node whose exchange is superseded: the miss and its outcome (R124). -/
theorem State.supersede_self {n : NodeSlot} {s : State} (h : (s.node n).exch.awaiting = true) : (s.supersede n).node n =
    { (s.node n).miss false with sup := (s.node n).sup.after s.tables.node[n] false } := by
  rw [State.supersede_awaiting h, State.withdrawNewest_node, State.takeOutcome_node, if_pos rfl, State.onNode_node, if_pos rfl]
  rfl

theorem State.supersede_idles (n : NodeSlot) (s : State) : ((s.supersede n).node n).exch.awaiting = false := by
  cases hw : (s.node n).exch.awaiting with
  | false => rwa [State.supersede_idle hw]
  | true => rw [State.supersede_self hw]; rfl

/-! ## The balance of one node's records (R131) -/

namespace NodeRec

variable {r : NodeRec}

theorem balanced_fresh (st : NodeState) : (NodeRec.fresh st).Balanced := rfl

/-- The balance of an IDLE exchange: as many issues as outcomes. -/
theorem balanced_idle (h : r.exch.awaiting = false) :
    r.Balanced ↔ r.counts.issued = r.counts.good + r.counts.bad + r.counts.missed + r.counts.abandoned := by
  simp [NodeRec.Balanced, h]

/-- The balance of an AWAITING exchange: one issue more than outcomes. -/
theorem balanced_awaiting (h : r.exch.awaiting = true) :
    r.Balanced ↔ r.counts.issued = r.counts.good + r.counts.bad + r.counts.missed + r.counts.abandoned + 1 := by
  simp [NodeRec.Balanced, h]

namespace Balanced

theorem miss (hr : r.Balanced) (h : r.exch.awaiting = true) (tagged : Bool) : (r.miss tagged).Balanced := by
  rw [NodeRec.balanced_awaiting h] at hr
  rw [NodeRec.balanced_idle rfl]
  simp only [NodeRec.miss, hr]
  ac_rfl

theorem abandon (hr : r.Balanced) : r.abandon.Balanced := by
  rw [NodeRec.balanced_idle rfl]
  cases h : r.exch.awaiting with
  | false =>
    rw [NodeRec.balanced_idle h] at hr
    simpa [NodeRec.abandon, h] using hr
  | true =>
    rw [NodeRec.balanced_awaiting h] at hr
    simp only [NodeRec.abandon, h, hr, if_true]
    ac_rfl

theorem answered (hr : r.Balanced) (h : r.exch.awaiting = true) (good : Bool) (stamp : Count) :
    (r.answered good stamp).Balanced := by
  rw [NodeRec.balanced_awaiting h] at hr
  rw [NodeRec.balanced_idle rfl]
  cases good with
  | false => simp only [NodeRec.answered, Bool.false_eq_true, if_false, hr]; ac_rfl
  | true => simp only [NodeRec.answered, if_true, hr]; ac_rfl

theorem unmatched (hr : r.Balanced) (tag : Byte) : (r.unmatched tag).Balanced := by
  unfold NodeRec.unmatched
  split
  · exact hr
  · exact hr

theorem issue (hr : r.Balanced) (h : r.exch.awaiting = false) (tag : Byte) (o : Control × Nat) (time : Count) (response : Nat) :
    (r.issue tag o time response).Balanced := by
  rw [NodeRec.balanced_idle h] at hr
  rw [NodeRec.balanced_awaiting rfl]
  simp only [NodeRec.issue, hr]

/-- NOT_SENT is an issue and its miss at once. -/
theorem notSent (hr : r.Balanced) : r.notSent.Balanced := by
  unfold NodeRec.Balanced at hr ⊢
  simp only [NodeRec.notSent, hr]
  ac_rfl

end Balanced

end NodeRec

/-! ## The invariant -/

namespace State.OutcomesBalanced

variable {s t : State}

/-- The balance is a matter of the order unit's records. -/
theorem of_orders (hs : s.OutcomesBalanced) (ho : t.order = s.order := by simp) : t.OutcomesBalanced :=
  fun m => State.node_congr ho m ▸ hs m

/-- Records at their start values, whatever the supervision state (R123). -/
theorem of_start (h : ∀ m, ∃ st, t.node m = NodeRec.fresh st) : t.OutcomesBalanced := fun m => by
  obtain ⟨st, hm⟩ := h m
  rw [hm]
  exact NodeRec.balanced_fresh st

theorem onNode (hs : s.OutcomesBalanced) (n : NodeSlot) {f : NodeRec → NodeRec}
    (hf : (s.node n).Balanced → (f (s.node n)).Balanced) : (s.onNode n f).OutcomesBalanced := fun m => by
  rw [State.onNode_node]
  split
  · exact hf (hs n)
  · exact hs m

/-- The supervision record has no part in the balance. -/
theorem takeOutcome (hs : s.OutcomesBalanced) (n : NodeSlot) (good : Bool) : (s.takeOutcome n good).OutcomesBalanced := fun m => by
  rw [State.takeOutcome_node]
  split
  · exact hs n
  · exact hs m

theorem supersede (hs : s.OutcomesBalanced) (n : NodeSlot) : (s.supersede n).OutcomesBalanced := by
  cases h : (s.node n).exch.awaiting with
  | false => rwa [State.supersede_idle h]
  | true =>
    rw [State.supersede_awaiting h]
    exact ((hs.onNode n fun hn => hn.miss h false).takeOutcome n false).of_orders

/-- An order for a node whose exchange is IDLE begins one exchange, or begins one and ends it NOT_SENT. -/
theorem issueOrder (hs : s.OutcomesBalanced) {n : NodeSlot} (h : (s.node n).exch.awaiting = false) :
    (s.issueOrder n).OutcomesBalanced := by
  unfold State.issueOrder
  dsimp only
  split
  · refine State.OutcomesBalanced.onNode ?_ n fun hn => hn.issue h ..
    exact hs.of_orders
  · exact (hs.onNode n fun hn => hn.notSent).takeOutcome n false

theorem orderNode (hs : s.OutcomesBalanced) (n : NodeSlot) : (s.orderNode n).OutcomesBalanced := by
  unfold State.orderNode
  split
  · exact (hs.supersede n).issueOrder (s.supersede_idles n)
  · exact hs

theorem matchReport (hs : s.OutcomesBalanced) (n : NodeSlot) (stamp : Count) (tag : Byte) (status achieved capability : Nat) :
    (s.matchReport n stamp tag status achieved capability).OutcomesBalanced := by
  unfold State.matchReport
  dsimp only
  split
  · rename_i hmatch
    have hended := (hs.onNode n fun hn => hn.answered hmatch.1 (reportGood status (s.node n).exch.control) stamp).takeOutcome n
      (reportGood status (s.node n).exch.control)
    split
    · exact hended.onNode n id
    · exact hended
  · exact hs.onNode n fun hn => hn.unmatched tag

theorem missDeadline (hs : s.OutcomesBalanced) (n : NodeSlot) : (s.missDeadline n).OutcomesBalanced := by
  unfold State.missDeadline
  split
  · exact (hs.onNode n fun hn => hn.miss ‹_› true).takeOutcome n false
  · exact hs

theorem cutNode (hs : s.OutcomesBalanced) (n : NodeSlot) : (s.cutNode n).OutcomesBalanced := by
  by_cases h : (s.node n).sup.state = .cutOut
  · rwa [State.cutNode_already h]
  · intro m
    rw [State.cutNode_fresh h, State.judgeControlLoss_node]
    by_cases hm : m = n
    · subst hm
      obtain ⟨refused, hself⟩ := s.cutReleased_self m
      rw [hself]
      exact (hs m).abandon
    · rw [State.cutReleased_other hm]
      exact hs m

theorem restoreNode (hs : s.OutcomesBalanced) (n : NodeSlot) : (s.restoreNode n).OutcomesBalanced := by
  unfold State.restoreNode
  split
  · exact hs.onNode n id
  · exact hs

theorem releaseOnLeaving (hs : s.OutcomesBalanced) (n : NodeSlot) : (s.releaseOnLeaving n).OutcomesBalanced := by
  unfold State.releaseOnLeaving
  split
  · intro m
    rw [State.offerRelease_node]
    split
    · exact hs m
    · exact hs m
  · exact hs

/-- Leaving RUN abandons every AWAITING exchange (R137). -/
theorem leaveRun (hs : s.OutcomesBalanced) (p : PartState) : (s.leaveRun p).OutcomesBalanced := by
  refine foldl_keeps State.OutcomesBalanced State.releaseOnLeaving (fun _ n ht => ht.releaseOnLeaving n) _ _ fun m => ?_
  rw [State.abandonAll_node]
  exact (hs m).abandon

end State.OutcomesBalanced

theorem outcomesBalanced_keptByPasses : KeptByPasses State.OutcomesBalanced where
  drawn _ hs := hs.of_orders
  raise _ _ hs := hs.of_orders
  trigger _ _ _ hs := hs.of_orders
  failsafe _ _ s _ hs := (hs.of_orders : (State.setCause _ _ (s.trigger .failsafeEntry)).OutcomesBalanced).leaveRun .failsafe
  run _ _ _ hs := hs.of_orders
  fallback _ _ hs := hs.of_orders

theorem State.OutcomesBalanced.takeEpoch {s : State} (hs : s.OutcomesBalanced) (k : EpochKind) : (s.takeEpoch k).OutcomesBalanced :=
  outcomesBalanced_keptByPasses.takeEpoch (fun n _ _ ht => ht.orderNode n) (fun _ ht => ht.of_orders) k s hs.of_orders

theorem outcomesBalanced_keptWithin : KeptWithin State.OutcomesBalanced where
  toKeptByPasses := outcomesBalanced_keptByPasses
  axleSpeed _ _ _ hs := hs.of_orders
  ref _ _ hs := hs.of_orders
  demand _ hs := hs.of_orders
  source _ _ _ _ _ _ _ _ hs := hs.of_orders
  restAxle _ _ hs := hs.of_orders
  slip _ _ _ hs := hs.of_orders
  evaluated _ _ hs := hs.of_orders
  extra _ _ hs := hs.takeEpoch .extra
  report n stamp tag status achieved capability _ _ hs := hs.matchReport n stamp tag status achieved capability
  time _ _ hs := hs.of_orders
  overflow _ _ hs := hs.of_orders
  unclaimed _ hs := hs.of_orders
  demandRefused _ hs := hs.of_orders
  sampleRefused _ hs := hs.of_orders
  reportRefused _ hs := hs.of_orders
  responseDropped _ hs := hs.of_orders
  accept _ _ _ _ _ _ _ hs := hs.of_orders
  forward _ _ _ _ hs := hs.of_orders
  push _ _ _ hs := hs.of_orders

/-- Every elementary effect keeps the balance of every node. -/
theorem outcomesBalanced_kept : Kept State.OutcomesBalanced where
  toKeptWithin := outcomesBalanced_keptWithin
  pending _ _ hs := hs.of_orders
  powerOn _ _ _ _ := .of_start fun m => ⟨_, vec8_get _ m⟩
  rx _ _ _ hs := hs.of_orders
  good _ _ hs := hs.of_orders
  badForm _ _ hs := hs.of_orders
  badCheck _ _ hs := hs.of_orders
  completed _ _ _ hs := hs.of_orders
  clear _ hs := hs.of_orders
  loseSource _ _ _ hs := hs.of_orders
  regular s _ hs := by
    unfold State.regularEpoch
    refine State.OutcomesBalanced.takeEpoch ?_ .regular
    exact hs.of_orders rfl
  holdExpiry _ _ _ hs := hs.of_orders
  lockOut _ _ _ hs := hs.of_orders
  missDeadline n _ _ hs := hs.missDeadline n
  controlLoss _ _ hs := hs
  line _ _ _ _ hs := hs.of_orders
  pop _ hs := hs.of_orders
  part _ _ _ _ hs := hs.of_orders
  validation _ _ hs := hs.of_orders
  enterRun _ _ _ _ := .of_start fun m => ⟨_, vec8_get _ m⟩
  leave p _ _ _ hs := hs.leaveRun p
  write _ _ _ _ _ _ hs := hs.of_orders
  load _ _ _ hs m := by
    rw [State.loadCount_node]
    exact hs m
  readEvents _ hs := hs.of_orders
  cut n _ hs := hs.cutNode n
  restore n _ hs := hs.restoreNode n
  markRead _ _ hs := hs.of_orders
  release _ _ hs := hs.of_orders
  softReset _ _ _ _ _ _ _ _ _ := .of_start fun m => ⟨_, vec8_get _ m⟩

/-- Settles O36: each effect on a node's records keeps their balance, and so does every step. -/
theorem outcomesStayBalanced : Obligations.OutcomesStayBalanced :=
  outcomesBalanced_kept.step

end Sys2Proof.Machine

/-! NODE_CUT and NODE_RESTORE (R134 to R136). -/

namespace Sys2Proof.Machine

/-! ## The request for a node slot -/

/-- A request whose one argument is a node slot is refused for its form or its index, or answered with the supervision state that
it finds. -/
theorem serve_answerNode (act : NodeSlot → State → State) {s : State} {r : Request} {rest : List Request} {kind : Byte}
    (h : s.asks r rest kind) :
    (r.args.length ≠ 1 → serve (ofKind kind) (answerNode act) s = s.replied r .badRequest []) ∧
      (∀ b : Byte, r.args = [b] → 8 ≤ b.toNat → serve (ofKind kind) (answerNode act) s = s.replied r .badIndex []) ∧
      (∀ n : NodeSlot, r.args = [BitVec.ofNat 8 n.val] →
        serve (ofKind kind) (answerNode act) s = (act n s).replied r .ok [(s.node n).sup.state.code]) := by
  have hkind : ofKind kind r = true := State.asks_ofKind h rfl
  refine ⟨fun hl => serve_refuse h.1 hkind (if_pos hl), fun b ha hb => serve_refuse h.1 hkind ?_,
    fun n ha => serve_answer h.1 hkind ?_⟩
  · have hslot : ¬ r.arg 0 < 8 := by simpa [Request.arg, byteAt, ha] using hb
    simp [answerNode, ha, hslot]
  · have hslot : r.arg 0 = n.val := by
      simp only [Request.arg, byteAt, ha, List.getD_cons_zero, BitVec.toNat_ofNat]
      omega
    simp [answerNode, ha, hslot]

/-! ## A node that is cut (R134) -/

/-- The cut of a node's records, its abandoned exchange counted when it was AWAITING. -/
theorem NodeRec.cut_eq (r : NodeRec) : r.cut =
    { r with
      sup := { state := .cutOut, goodRun := 0, missRun := 0 }
      exch := { r.exch with awaiting := false, deadline := none }
      counts := { r.counts with abandoned := r.counts.abandoned + (if r.exch.awaiting then 1 else 0) } } := by
  rw [NodeRec.cut, NodeRec.abandon_eq]

section
variable (n : NodeSlot) (s : State)

/-- In RUN a present node is offered its release order, or the refused order is counted. -/
theorem State.cutReleased_eq : s.cutReleased n =
    if s.agent.part = .run ∧ s.tables.node[n].present = true then
      (if (s.cutWithdrawn n).link.portB.originated.length < 12 then
        (s.cutWithdrawn n).accept .b (.release n) s.tables.node[n].address 0x31 [BitVec.ofNat 8 s.blend.epoch.toNat, 0, 0, 0, 0]
      else (s.cutWithdrawn n).onNode n fun x =>
        { x with counts := { x.counts with releasesNotSent := x.counts.releasesNotSent + 1 } })
    else s.cutWithdrawn n := by
  simp only [State.cutReleased, State.offerRelease, State.running, beq_iff_eq, State.hasRoom, decide_eq_true_eq, releasePayload_eq]
  rfl

theorem State.cutReleased_keeps : (s.cutReleased n).time = s.time ∧ (s.cutReleased n).agent = s.agent ∧
    (s.cutReleased n).tables = s.tables ∧ (s.cutReleased n).order.controlLoss = s.order.controlLoss := by
  rw [State.cutReleased_eq]
  split
  · split
    · simp [State.cutWithdrawn]
    · simp [State.cutWithdrawn]
  · simp [State.cutWithdrawn]

/-- No order of a cut node waits: its release order is another kind of frame. -/
theorem State.cutReleased_originated : ∀ f ∈ (s.cutReleased n).link.portB.originated, f.origin ≠ .order n := by
  intro f hf
  rw [State.cutReleased_eq] at hf
  split at hf
  · split at hf
    · rcases State.accept_originated _ .b .b _ _ _ _ f hf with hwaiting | hrelease
      · exact State.withdrawNode_originated n _ f hwaiting
      · rw [hrelease]
        exact nofun
    · exact State.withdrawNode_originated n _ f hf
  · exact State.withdrawNode_originated n _ f hf

/-- A cut brings no node into service. -/
theorem State.cutReleased_inService : (s.cutReleased n).inService ≤ s.inService := by
  obtain ⟨-, -, htables, -⟩ := s.cutReleased_keeps n
  refine List.countP_mono_left fun m _ hm => ?_
  rw [State.nodeInService, htables] at hm
  by_cases hmn : m = n
  · subst hmn
    obtain ⟨refused, hself⟩ := s.cutReleased_self m
    simp [hself, NodeRec.cut, NodeState.inService] at hm
  · rwa [State.cutReleased_other hmn] at hm

/-- The cut of the last node in service starts the control-loss timer in RUN (R136). -/
theorem State.cutReleased_timer : ((s.cutReleased n).judgeControlLoss s.inService).order.controlLoss =
    if s.agent.part = .run ∧ 0 < s.servingNodes ∧ (s.cutReleased n).servingNodes = 0 then
      some (s.now + BitVec.ofNat 48 (s.tables.blend.controlLoss * 1000))
    else s.order.controlLoss := by
  obtain ⟨htime, hagent, htables, htimer⟩ := s.cutReleased_keeps n
  have hle := s.cutReleased_inService n
  rw [State.judgeControlLoss_timer, if_neg (by omega)]
  simp only [State.servingNodes_eq, State.running, State.now, htime, hagent, htables, htimer, beq_iff_eq, startTimer, Count.plus]
  exact if_congr (by tauto) rfl rfl

/-- A node not yet cut: the records it keeps, and the orders that wait at Port B. -/
theorem State.cutNode_records (h : (s.node n).sup.state ≠ .cutOut) :
    ((s.cutNode n).node n).sup = { state := .cutOut, goodRun := 0, missRun := 0 } ∧ ((s.cutNode n).node n).exch.awaiting = false ∧
      ((s.cutNode n).node n).exch.deadline = none ∧ ((s.cutNode n).node n).counts.issued = (s.node n).counts.issued ∧
      (∀ f ∈ (s.cutNode n).link.portB.originated, f.origin ≠ .order n) := by
  obtain ⟨refused, hself⟩ := s.cutReleased_self n
  obtain ⟨hlink, -⟩ := (s.cutReleased n).judgeControlLoss_keeps s.inService
  rw [State.cutNode_fresh h, State.judgeControlLoss_node, hself, hlink]
  exact ⟨rfl, rfl, rfl, rfl, s.cutReleased_originated n⟩

theorem State.cutNode_other {m : NodeSlot} (hm : m ≠ n) : (s.cutNode n).node m = s.node m := by
  by_cases h : (s.node n).sup.state = .cutOut
  · rw [State.cutNode_already h]
  · rw [State.cutNode_fresh h, State.judgeControlLoss_node, State.cutReleased_other hm]

end

/-- Settles O35: the request's checks, and the cut in its parts: withdrawal, release order, timer. -/
theorem nodesAreCutAndRestored : Obligations.NodesAreCutAndRestored := by
  refine fun s r rest => ⟨fun h => ?_, fun h => ?_⟩
  · obtain ⟨hlength, hindex, hslot⟩ := serve_answerNode State.cutNode h
    refine ⟨fun hl => congrArg Host.Outcome.next (hlength hl), fun b ha hb => congrArg Host.Outcome.next (hindex b ha hb),
      fun n ha => ⟨s.cutNode n, congrArg Host.Outcome.next (hslot n ha), State.cutNode_already, fun hst => ?_,
        fun m hm => s.cutNode_other n hm, by simp⟩⟩
    intro abandoned cut released timer
    have hcut : s.cutWithdrawn n = cut := by
      simp only [State.cutWithdrawn, funext NodeRec.cut_eq]
      rfl
    have hreleased : s.cutReleased n = released := by rw [State.cutReleased_eq, hcut]
    have htimer : ((s.cutReleased n).judgeControlLoss s.inService).order.controlLoss = timer := by
      rw [State.cutReleased_timer, hreleased]
    refine ⟨?_, s.cutNode_records n hst⟩
    rw [State.cutNode_fresh hst, State.judgeControlLoss_eq, htimer, hreleased]
  · obtain ⟨hlength, hindex, hslot⟩ := serve_answerNode State.restoreNode h
    exact ⟨fun hl => congrArg Host.Outcome.next (hlength hl), fun b ha hb => congrArg Host.Outcome.next (hindex b ha hb),
      fun n ha => congrArg Host.Outcome.next (hslot n ha)⟩

end Sys2Proof.Machine

/-! Reports and outcomes (R126 to R128, R132, R133, Table 8-4). -/

namespace Sys2Proof.Machine

/-! ## Outcomes (R132, R133, Table 8-4) -/

theorem Supervision.after_good (e : NodeEntry) (u : Supervision) : u.after e true =
    { goodRun := min 255 (u.goodRun + 1), missRun := 0
      state := match u.state with
        | .absent | .joining | .lost => if e.join ≤ min 255 (u.goodRun + 1) then .active else .joining
        | .active => .active
        | .degraded => if e.join ≤ min 255 (u.goodRun + 1) then .active else .degraded
        | .cutOut => .cutOut } := by
  rw [← bump_eq_min]
  rfl

theorem Supervision.after_missed (e : NodeEntry) (u : Supervision) : u.after e false =
    { goodRun := 0, missRun := min 255 (u.missRun + 1)
      state := match u.state with
        | .absent => .absent
        | .joining => .lost
        | .active => if e.degrade ≤ min 255 (u.missRun + 1) then .degraded else .active
        | .degraded => if e.lost ≤ min 255 (u.missRun + 1) then .lost else .degraded
        | .lost => .lost
        | .cutOut => .cutOut } := by
  rw [← bump_eq_min]
  rfl

/-- An outcome is the new supervision record, what its transition brings about, and the control-loss timer judged. -/
theorem State.takeOutcome_eq (n : NodeSlot) (good : Bool) (s : State) : ∃ timer, s.takeOutcome n good =
    let told := (s.supTaken n good).transitionEffects n (s.node n).sup.state ((s.node n).sup.after s.tables.node[n] good).state
    { told with order := { told.order with controlLoss := timer } } :=
  ⟨_, State.judgeControlLoss_eq _ _⟩

/-! ## Reports matched against the exchange (R127, R128) -/

theorem reportGood_eq {status : Nat} (h : status ≤ 3) (c : Control) :
    reportGood status c = decide (status ≤ 1 ∨ (status = 3 ∧ c = .releaseControl)) := by
  match status with
  | 0 | 1 | 2 => simp [reportGood]
  | 3 => cases c <;> rfl

/-- Of the orders that hold, OK and LIMITED alone answer GOOD. -/
theorem reportGood_hold {status : Nat} (h : status ≤ 3) : reportGood status .holdControl = true ↔ status ≤ 1 := by
  simp [reportGood_eq h]

/-- A change of one node's records depends on what it makes of those records as they stand. -/
theorem State.onNode_congr {n : NodeSlot} {f g : NodeRec → NodeRec} {s : State} (h : f (s.node n) = g (s.node n)) :
    s.onNode n f = s.onNode n g := by
  simp only [State.onNode, h]

/-- The exchange ended by a matching report, and the outcome taken (R127). -/
def State.reported (n : NodeSlot) (stamp : Count) (good : Bool) (s : State) : State :=
  (s.onNode n (NodeRec.answered good stamp)).takeOutcome n good

theorem NodeRec.unmatched_eq (tag : Byte) (r : NodeRec) : r.unmatched tag =
    { r with counts :=
      if r.exch.lastMissed = some tag then { r.counts with late := r.counts.late + 1 }
      else { r.counts with stray := r.counts.stray + 1 } } := by
  unfold NodeRec.unmatched
  split <;> rfl

/-- Feedback of an OK or LIMITED answer (R128). -/
theorem NodeRec.feedback_eq {status : Nat} (h : status ≤ 1) (n : NodeSlot) (achieved capability : Nat) (r : NodeRec) :
    r.feedback n status achieved capability =
      { r with achieved := some achieved
               cap := if n.val < 6 then (if status = 1 then some capability else none) else r.cap } := by
  match status with
  | 0 | 1 => rfl

section
variable {n : NodeSlot} {s : State} {tag : Byte} {status : Nat} (stamp : Count) (achieved capability : Nat)

theorem State.matchReport_unmatched (h : (s.node n).exch.awaiting = false ∨ (s.node n).exch.tag ≠ tag) :
    s.matchReport n stamp tag status achieved capability = s.onNode n (NodeRec.unmatched tag) := by
  refine if_neg ?_
  rintro ⟨hawaiting, htag⟩
  rcases h with h | h
  · exact nomatch h.symm.trans hawaiting
  · exact h htag

variable (hw : (s.node n).exch.awaiting = true) (ht : (s.node n).exch.tag = tag)
include hw ht

theorem State.matchReport_matched : s.matchReport n stamp tag status achieved capability =
    if reportGood status (s.node n).exch.control = true ∧ (s.node n).exch.control = .holdControl then
      (s.reported n stamp (reportGood status (s.node n).exch.control)).onNode n (NodeRec.feedback n status achieved capability)
    else s.reported n stamp (reportGood status (s.node n).exch.control) :=
  if_pos ⟨hw, ht⟩

/-- A GOOD answer to HOLD_CONTROL stores feedback. -/
theorem State.matchReport_stores (hc : (s.node n).exch.control = .holdControl) (hs : status ≤ 1) :
    s.matchReport n stamp tag status achieved capability =
      (s.reported n stamp true).onNode n (NodeRec.feedback n status achieved capability) := by
  have hgood : reportGood status .holdControl = true := (reportGood_hold (by omega)).2 hs
  rw [State.matchReport_matched stamp achieved capability hw ht, hc, hgood, if_pos ⟨rfl, rfl⟩]

/-- Any other answer ends the exchange and no more. -/
theorem State.matchReport_plain (hle : status ≤ 3) (h : (s.node n).exch.control = .releaseControl ∨ 2 ≤ status) :
    s.matchReport n stamp tag status achieved capability = s.reported n stamp (reportGood status (s.node n).exch.control) := by
  rw [State.matchReport_matched stamp achieved capability hw ht, if_neg]
  rintro ⟨hgood, hhold⟩
  rw [hhold, reportGood_hold hle] at hgood
  rcases h with h | h
  · exact nomatch hhold.symm.trans h
  · omega

end

/-! ## The records after a report -/

theorem State.reported_self (n : NodeSlot) (stamp : Count) (good : Bool) (s : State) : (s.reported n stamp good).node n =
    { (s.node n).answered good stamp with sup := (s.node n).sup.after s.tables.node[n] good } := by
  rw [State.reported, State.takeOutcome_node, if_pos rfl, State.onNode_node, if_pos rfl]
  rfl

theorem State.reported_other {n m : NodeSlot} (h : m ≠ n) (stamp : Count) (good : Bool) (s : State) :
    (s.reported n stamp good).node m = s.node m := by
  rw [State.reported, State.takeOutcome_node, if_neg h.symm, State.onNode_node, if_neg h.symm]

/-! ## Report frames (R126) -/

/-- A report of a permitted status stores a pressure when it is a GOOD answer of a valve unit to HOLD_CONTROL. -/
theorem State.reportStores_iff {n : NodeSlot} {s : State} {tag : Byte} {status : Nat} (h : status ≤ 3) :
    s.reportStores n tag status = true ↔ 6 ≤ n.val ∧ (s.node n).exch.awaiting = true ∧ (s.node n).exch.tag = tag ∧
      (s.node n).exch.control = .holdControl ∧ status ≤ 1 := by
  simp only [State.reportStores, Bool.and_eq_true, beq_iff_eq, decide_eq_true_eq]
  constructor
  · rintro ⟨⟨⟨⟨hw, ht⟩, hgood⟩, hc⟩, hn⟩
    rw [hc, reportGood_hold h] at hgood
    exact ⟨hn, hw, ht, hc, hgood⟩
  · rintro ⟨hn, hw, ht, hc, hs⟩
    exact ⟨⟨⟨⟨hw, ht⟩, by rw [hc, reportGood_hold h]; exact hs⟩, hc⟩, hn⟩

/-- Settles O39: a report by its form and its match, an outcome by its supervision record and transition. -/
theorem reportsAreMatched : Obligations.ReportsAreMatched := by
  refine ⟨fun n s stamp f => ?_, fun n s stamp tag status achieved capability hle => ?_, fun n good s => ?_⟩
  · intro payload tag status achieved refused matched x stores
    have hiff (h : ¬ refused) : s.reportStores n tag status = true ↔ stores :=
      State.reportStores_iff (Nat.le_of_not_lt fun hstatus => h (.inr (.inr hstatus)))
    refine ⟨fun h => if_pos h, fun h hs => ?_, fun h hs => ?_⟩
    · exact (if_neg h).trans (if_neg (mt (hiff h).1 hs))
    · refine (if_neg h).trans ((if_pos ((hiff h).2 hs)).trans ?_)
      simp only [Fin.ext_iff]
      rfl
  · intro x t good ended
    have hgood : reportGood status x.exch.control = good := reportGood_eq hle _
    have hended : s.reported n stamp (reportGood status x.exch.control) = ended := by rw [hgood]; rfl
    have hstored (hw : x.exch.awaiting = true) (ht : x.exch.tag = tag) (hc : x.exch.control = .holdControl) (hs : status ≤ 1) :
        t = (s.reported n stamp true).onNode n (NodeRec.feedback n status achieved capability) :=
      State.matchReport_stores stamp achieved capability hw ht hc hs
    have hplain (hw : x.exch.awaiting = true) (ht : x.exch.tag = tag) (h : x.exch.control = .releaseControl ∨ 2 ≤ status) :
        t = s.reported n stamp (reportGood status x.exch.control) :=
      State.matchReport_plain stamp achieved capability hw ht hle h
    refine ⟨fun h => ?_, fun hw ht hc hs => ?_, fun hw ht h => ?_, fun hw ht hc h0 => ?_, fun hw ht h2 => ?_⟩
    · exact (State.matchReport_unmatched stamp achieved capability h).trans (State.onNode_congr (NodeRec.unmatched_eq tag _))
    · have htrue : reportGood status x.exch.control = true := by rw [hc]; exact (reportGood_hold hle).2 hs
      rw [hstored hw ht hc hs, ← htrue, hended]
      exact State.onNode_congr (NodeRec.feedback_eq hs ..)
    · exact (hplain hw ht h).trans hended
    · subst h0
      have hnode : t.node n = ((s.reported n stamp true).node n).feedback n 0 achieved capability := by
        rw [hstored hw ht hc (Nat.zero_le _), State.onNode_node, if_pos rfl]
      rw [hnode, State.reported_self, NodeRec.feedback_eq (Nat.zero_le _), Supervision.after_good]
      refine ⟨rfl, rfl, rfl, rfl, rfl, rfl, fun m hm => ?_, ?_⟩
      · rw [hstored hw ht hc (Nat.zero_le _), State.onNode_node, if_neg hm.symm, State.reported_other hm]
      · simp [t]
    · subst h2
      have hreported : t = s.reported n stamp false := hplain hw ht (.inr (Nat.le_refl _))
      rw [hreported, State.reported_self]
      exact ⟨rfl, rfl, rfl, rfl, fun m hm => State.reported_other hm ..⟩
  · intro e old goodRun missRun state moved lost told
    obtain ⟨timer, houtcome⟩ := State.takeOutcome_eq n good s
    have hafter : old.after e good = { state := state, goodRun := goodRun, missRun := missRun } := by
      cases good with
      | true =>
        rw [Supervision.after_good]
        cases hold : old.state <;> simp only [state, goodRun, missRun, hold, if_true]
      | false =>
        rw [Supervision.after_missed]
        cases hold : old.state <;> simp [state, goodRun, missRun, hold]
    have hmoved : s.supTaken n good = moved := by rw [State.supTaken, hafter]
    refine ⟨timer, houtcome.trans ?_⟩
    rw [hmoved, hafter]
    rfl

end Sys2Proof.Machine

/-! The orders of a publication (R124, R125, Table 8-3). -/

namespace Sys2Proof.Machine

/-! ## The order of a node slot (Table 8-3) -/

theorem NodeState.inService_iff (st : NodeState) : st.inService = decide (st = .active ∨ st = .degraded) := by
  cases st <;> rfl

/-- A node in service is sent its output, any other a probe: HOLD to an inverter, RELEASE to a valve unit. -/
theorem orderFor_eq (p : Publication) (n : NodeSlot) (st : NodeState) : orderFor p n st =
    ((if st.inService || decide (n.val < 6) then .holdControl else .releaseControl),
      (if st.inService then p.outputFor n else 0)) := by
  unfold orderFor
  cases st.inService with
  | true => rfl
  | false => by_cases hn : n.val < 6 <;> simp [hn]

theorem orderPayload_eq (epoch : Counter) (c : Control) (m : Mode) (value : Nat) :
    orderPayload (tagOf epoch) c (m = .emergency) value =
      BitVec.ofNat 8 epoch.toNat :: (if c = .holdControl then 1 else 0) :: (if m = .emergency then 1 else 0) :: toBytes 2 value := by
  rw [tagOf, ← BitVec.ofNat_toNat]
  cases c <;> simp [orderPayload, code, flag]

/-! ## What becomes of it (R124) -/

section
variable {n : NodeSlot} {s : State}

theorem State.orderNode_passed (h : s.tables.node[n].present = false ∨ (s.node n).sup.state = .cutOut) : s.orderNode n = s := by
  refine if_neg ?_
  rintro ⟨hpresent, hcut⟩
  rcases h with h | h
  · exact nomatch h.symm.trans hpresent
  · exact hcut h

theorem State.orderNode_ordered (hp : s.tables.node[n].present = true) (hc : (s.node n).sup.state ≠ .cutOut) :
    s.orderNode n = (s.supersede n).issueOrder n := if_pos ⟨hp, hc⟩

/-- The slot of an IDLE exchange is sent its order at once. -/
theorem State.orderNode_idle (hp : s.tables.node[n].present = true) (hc : (s.node n).sup.state ≠ .cutOut)
    (hw : (s.node n).exch.awaiting = false) : s.orderNode n = s.issueOrder n := by
  rw [State.orderNode_ordered hp hc, State.supersede_idle hw]

/-- An accepted order begins the exchange. -/
theorem State.issueOrder_accepted (h : s.link.portB.originated.length < 12) : s.issueOrder n =
    (s.accept .b (.order n) s.tables.node[n].address kindOrder
        (orderPayload (tagOf s.blend.pub.epoch) (orderFor s.blend.pub n (s.node n).sup.state).1
          (s.blend.pub.demand.mode = .emergency) (orderFor s.blend.pub n (s.node n).sup.state).2)).onNode n
      (NodeRec.issue (tagOf s.blend.pub.epoch) (orderFor s.blend.pub n (s.node n).sup.state) s.blend.pub.time
        s.tables.node[n].response) :=
  if_pos (decide_eq_true h)

/-- An order refused by a full queue ends NOT_SENT. -/
theorem State.issueOrder_notSent (h : 12 ≤ s.link.portB.originated.length) :
    s.issueOrder n = (s.onNode n NodeRec.notSent).takeOutcome n false :=
  if_neg fun hroom => Nat.not_lt.2 h (of_decide_eq_true hroom)

end

/-! ## A superseded exchange (R124 step 1) -/

/-- No outcome cuts a node out or restores it (Table 8-4). -/
theorem Supervision.after_cutOut_iff (e : NodeEntry) (u : Supervision) (good : Bool) :
    (u.after e good).state = .cutOut ↔ u.state = .cutOut := by
  have runs (p : Prop) [Decidable p] (x y : NodeState) (hx : x ≠ .cutOut) (hy : y ≠ .cutOut) :
      (if p then x else y) ≠ .cutOut := by
    split
    · exact hx
    · exact hy
  cases good with
  | true =>
    rw [Supervision.after_good]
    cases hu : u.state <;> simp [runs]
  | false =>
    rw [Supervision.after_missed]
    cases hu : u.state <;> simp [runs]

/-- The slot of an AWAITING exchange is sent its order once the exchange is superseded, as an IDLE one is. -/
theorem State.orderNode_supersedes {n : NodeSlot} {s : State} (hp : s.tables.node[n].present = true)
    (hc : (s.node n).sup.state ≠ .cutOut) : s.orderNode n = (s.supersede n).orderNode n := by
  have hpresent : (s.supersede n).tables.node[n].present = true := by simpa using hp
  have huncut : ((s.supersede n).node n).sup.state ≠ .cutOut := by
    cases hw : (s.node n).exch.awaiting with
    | false => rwa [State.supersede_idle hw]
    | true =>
      rw [State.supersede_self hw]
      exact mt (Supervision.after_cutOut_iff ..).1 hc
  rw [State.orderNode_ordered hp hc, State.orderNode_idle hpresent huncut (s.supersede_idles n)]

/-- Settles O38: the slots in turn; a slot passed over, one that is IDLE, and one that is superseded and then IDLE. -/
theorem ordersFollowEachPublication : Obligations.OrdersFollowEachPublication := by
  refine ⟨fun s => ⟨fun hr => if_pos (by simp [State.running, hr]), fun hr => if_neg (by simp [State.running, hr])⟩, fun n s => ?_⟩
  intro p tag served control value payload
  have hserved : (s.node n).sup.state.inService = served := NodeState.inService_iff _
  have horder : orderFor p n (s.node n).sup.state = (control, value) := by
    rw [orderFor_eq, hserved]
    rfl
  have htag : tagOf p.epoch = tag := by rw [tagOf, ← BitVec.ofNat_toNat]
  have hpayload : orderPayload (tagOf p.epoch) control (p.demand.mode = .emergency) value = payload := orderPayload_eq ..
  refine ⟨State.orderNode_passed, fun hp hc hw => ⟨fun hroom => ?_, fun hfull => ?_⟩, fun hp hc hw => ?_⟩
  · rw [State.orderNode_idle hp hc hw, State.issueOrder_accepted hroom, horder, hpayload, htag]
    rfl
  · rw [State.orderNode_idle hp hc hw, State.issueOrder_notSent hfull]
    rfl
  · intro missed
    rw [State.orderNode_supersedes hp hc, State.supersede_awaiting hw]
    rfl

end Sys2Proof.Machine

/-! The pending event set: what a raise makes of it and READ_EVENTS takes from it (R146 to R148). -/

namespace Sys2Proof.Machine

/-! ## A raise (R146, R147) -/

theorem State.isPending_iff {s : State} {e : EventId} : s.isPending e = true ↔ e ∈ s.monitor.events.map PendingEvent.id := by
  simp [State.isPending]

/-- The pending event of kind and index `e` counted once more, another as it stands (R146). -/
def PendingEvent.counted (e : EventId) (x : PendingEvent) : PendingEvent :=
  if x.id = e then { x with count := bump 255 x.count } else x

theorem PendingEvent.counted_id (e : EventId) (x : PendingEvent) : (x.counted e).id = x.id := by
  unfold PendingEvent.counted
  split <;> rfl

theorem PendingEvent.counted_range (e : EventId) (x : PendingEvent) (h : 1 ≤ x.count ∧ x.count ≤ 255) :
    1 ≤ (x.counted e).count ∧ (x.counted e).count ≤ 255 := by
  unfold PendingEvent.counted bump
  split
  · dsimp only
    split <;> omega
  · exact h

/-- The event that a raise of `e` creates, its notice settled as `n` (R146, R147). -/
def State.created (s : State) (e : EventId) (n : Notice) : PendingEvent :=
  { id := e, count := 1, stamp := s.now, epoch := s.blend.epoch, notice := n }

section
variable {s : State} {e : EventId}

theorem State.raise_counted (h : s.isPending e = true) : s.raise e = s.setEvents (s.monitor.events.map (PendingEvent.counted e)) :=
  if_pos h

theorem State.raise_created (h : s.isPending e = false) :
    s.raise e = (s.sendNotice e).setEvents (s.monitor.events ++ [s.created e s.noticeOutcome]) :=
  if_neg (by simp [h])

theorem State.sendNotice_unsent (ha : s.tables.link.noticeAddress = 0) :
    s.noticeOutcome = .unsent ∧ s.sendNotice e = s :=
  ⟨if_pos ha, if_pos ha⟩

theorem State.sendNotice_refused (ha : s.tables.link.noticeAddress ≠ 0) (hroom : ¬ s.hasRoom s.tables.link.noticePort) :
    s.noticeOutcome = .refused ∧ s.sendNotice e = s :=
  ⟨(if_neg ha).trans (if_neg hroom), (if_neg ha).trans (if_neg hroom)⟩

theorem State.sendNotice_queued (ha : s.tables.link.noticeAddress ≠ 0) (hroom : s.hasRoom s.tables.link.noticePort) :
    s.noticeOutcome = .queued ∧ s.sendNotice e = s.accept s.tables.link.noticePort .notice s.tables.link.noticeAddress kindNotice
      (noticePayload e s.now s.blend.epoch) :=
  ⟨(if_neg ha).trans (if_pos hroom), (if_neg ha).trans (if_pos hroom)⟩

end

/-- Settles O41: the counted event; the created one by the way its notice goes; code and index kind by kind. -/
theorem raiseCountsOrCreates : Obligations.RaiseCountsOrCreates := by
  refine fun s e => ⟨State.raise_counted, fun hnew => ?_, ?_⟩
  · intro room created
    refine ⟨fun ha => ?_, fun ha hfull => ?_, fun ha hroom => ?_⟩
    · obtain ⟨hnotice, hsent⟩ := State.sendNotice_unsent (e := e) ha
      rw [State.raise_created hnew, hnotice, hsent]
      rfl
    · obtain ⟨hnotice, hsent⟩ := State.sendNotice_refused (e := e) ha (mt of_decide_eq_true hfull)
      rw [State.raise_created hnew, hnotice, hsent]
      rfl
    · obtain ⟨hnotice, hsent⟩ := State.sendNotice_queued (e := e) ha (decide_eq_true hroom)
      rw [State.raise_created hnew, hnotice, hsent]
      rfl
  · cases e with
    | linkOverflow p => cases p <;> rfl
    | _ => rfl

/-! ## READ_EVENTS (R148) -/

theorem eventData_eq (es : List PendingEvent) :
    eventData es = BitVec.ofNat 8 (es.length - 4) :: (es.take 4).flatMap PendingEvent.bytes := by
  rw [eventData, List.length_drop, code]

/-- Settles O43: the two ways of the service, by the length of the request's arguments. -/
theorem readEventsTakesTheOldestFour : Obligations.ReadEventsTakesTheOldestFour := by
  refine fun s r rest h => congrArg Host.Outcome.next ?_
  split
  · rename_i hargs
    have hserved : answerReadEvents r s = answer (s.setEvents (s.monitor.events.drop 4)) (eventData s.monitor.events) :=
      if_neg (by simp [hargs])
    rw [eventData_eq] at hserved
    exact serve_answer h.1 (State.asks_ofKind h rfl) hserved
  · rename_i hargs
    exact serve_refuse h.1 (State.asks_ofKind h rfl) (if_pos (by simpa using hargs))

end Sys2Proof.Machine

/-! One pending event of each kind and index, counted 1 to 255, kept by every step (R146). -/

namespace Sys2Proof.Machine

/-! ## What keeps the events distinct -/

namespace State.EventsDistinct

variable {s t : State}

/-- The invariant is a matter of the event set. -/
theorem of_events (hs : s.EventsDistinct) (h : t.monitor.events = s.monitor.events := by simp) : t.EventsDistinct :=
  ⟨h ▸ hs.distinct, h ▸ hs.counts⟩

theorem of_empty (h : t.monitor.events = []) : t.EventsDistinct :=
  ⟨by simp [h], by simp [h]⟩

/-- A change of each pending event that keeps its kind and index, and its count in range. -/
theorem map (hs : s.EventsDistinct) {f : PendingEvent → PendingEvent} (ht : t.monitor.events = s.monitor.events.map f)
    (hid : ∀ x, (f x).id = x.id) (hcount : ∀ x, 1 ≤ x.count ∧ x.count ≤ 255 → 1 ≤ (f x).count ∧ (f x).count ≤ 255) :
    t.EventsDistinct where
  distinct := by
    rw [ht, List.map_map, show PendingEvent.id ∘ f = PendingEvent.id from funext hid]
    exact hs.distinct
  counts x hx := by
    rw [ht] at hx
    obtain ⟨y, hy, rfl⟩ := List.mem_map.1 hx
    exact hcount y (hs.counts y hy)

/-- An event of a kind and index that is not pending, at the tail of the set. -/
theorem append (hs : s.EventsDistinct) {x : PendingEvent} (ht : t.monitor.events = s.monitor.events ++ [x])
    (hnew : s.isPending x.id = false) (hx : 1 ≤ x.count ∧ x.count ≤ 255) : t.EventsDistinct where
  distinct := by
    have hfresh : x.id ∉ s.monitor.events.map PendingEvent.id := by
      rw [← State.isPending_iff, hnew]
      exact Bool.false_ne_true
    rw [ht, List.map_append, List.map_singleton, ← List.concat_eq_append]
    exact hs.distinct.concat hfresh
  counts y hy := by
    rw [ht, List.mem_append, List.mem_singleton] at hy
    rcases hy with hy | rfl
    · exact hs.counts y hy
    · exact hx

theorem drop (hs : s.EventsDistinct) (n : Nat) : (s.setEvents (s.monitor.events.drop n)).EventsDistinct where
  distinct := hs.distinct.sublist ((List.drop_sublist n _).map _)
  counts x hx := hs.counts x (List.mem_of_mem_drop hx)

theorem raise (hs : s.EventsDistinct) (e : EventId) : (s.raise e).EventsDistinct := by
  cases h : s.isPending e with
  | true => rw [State.raise_counted h]; exact hs.map rfl (PendingEvent.counted_id e) (PendingEvent.counted_range e)
  | false => rw [State.raise_created h]; exact hs.append rfl h (by decide : 1 ≤ 1 ∧ 1 ≤ 255)

/-- Of a trigger's ways the refusal alone raises an event (R154). -/
theorem trigger (hs : s.EventsDistinct) (c : Cause) : (s.trigger c).EventsDistinct := by
  cases htakes : s.takesTrigger c with
  | false => rwa [State.trigger_ignored htakes]
  | true =>
    cases hopen : s.recorder.openIncident with
    | some x =>
      rw [State.trigger_added htakes hopen]
      exact hs.of_events
    | none =>
      cases hroom : makeRoom s.tables.recorder s.now (s.slotsAsked c) s.recorder.incidents with
      | some kept =>
        rw [State.trigger_opened htakes hopen hroom]
        exact hs.of_events
      | none =>
        rw [State.trigger_refused htakes hopen hroom]
        exact (hs.raise .recordLost).of_events rfl

/-! ### Order unit and epoch -/

theorem transitionEffects (hs : s.EventsDistinct) (n : NodeSlot) (x y : NodeState) :
    (s.transitionEffects n x y).EventsDistinct := by
  unfold State.transitionEffects
  split
  · exact hs.raise (.nodeDegraded n)
  · split
    · exact ((hs.raise (.nodeLost n)).trigger (.nodeLost n)).of_events
    · exact hs

theorem takeOutcome (hs : s.EventsDistinct) (n : NodeSlot) (good : Bool) : (s.takeOutcome n good).EventsDistinct := by
  obtain ⟨timer, htaken⟩ := State.takeOutcome_eq n good s
  have hsup : (s.supTaken n good).EventsDistinct := hs.of_events rfl
  rw [htaken]
  exact (hsup.transitionEffects n _ _).of_events rfl

theorem supersede (hs : s.EventsDistinct) (n : NodeSlot) : (s.supersede n).EventsDistinct := by
  cases h : (s.node n).exch.awaiting with
  | false => rwa [State.supersede_idle h]
  | true =>
    have hmissed : (s.onNode n (NodeRec.miss false)).EventsDistinct := hs.of_events
    rw [State.supersede_awaiting h]
    exact (hmissed.takeOutcome n false).of_events

theorem issueOrder (hs : s.EventsDistinct) (n : NodeSlot) : (s.issueOrder n).EventsDistinct := by
  rcases Nat.lt_or_ge s.link.portB.originated.length 12 with h | h
  · rw [State.issueOrder_accepted h]
    exact hs.of_events
  · have hmissed : (s.onNode n NodeRec.notSent).EventsDistinct := hs.of_events
    rw [State.issueOrder_notSent h]
    exact hmissed.takeOutcome n false

theorem orderNode (hs : s.EventsDistinct) (n : NodeSlot) : (s.orderNode n).EventsDistinct := by
  unfold State.orderNode
  split
  · exact (hs.supersede n).issueOrder n
  · exact hs

theorem matchReport (hs : s.EventsDistinct) (n : NodeSlot) (stamp : Count) (tag : Byte) (status achieved capability : Nat) :
    (s.matchReport n stamp tag status achieved capability).EventsDistinct := by
  unfold State.matchReport
  dsimp only
  split
  · have hanswered : (s.onNode n (NodeRec.answered (reportGood status (s.node n).exch.control) stamp)).EventsDistinct :=
      hs.of_events
    have htaken := hanswered.takeOutcome n (reportGood status (s.node n).exch.control)
    split
    · exact htaken.of_events
    · exact htaken
  · exact hs.of_events

theorem missDeadline (hs : s.EventsDistinct) (n : NodeSlot) : (s.missDeadline n).EventsDistinct := by
  unfold State.missDeadline
  split
  · have hmissed : (s.onNode n (NodeRec.miss true)).EventsDistinct := hs.of_events
    exact hmissed.takeOutcome n false
  · exact hs

/-- Of an epoch's stages the noting of unplaced air alone raises an event (R80). -/
theorem computeEpoch (hs : s.EventsDistinct) (k : EpochKind) : (s.computeEpoch k).EventsDistinct := by
  have hbegun : s.beginEpoch.EventsDistinct := hs.of_events
  have hnoted (u : Nat) : (s.beginEpoch.noteUnplaced u).EventsDistinct := by
    unfold State.noteUnplaced
    dsimp only
    split
    · exact (hbegun.raise .airUnplaced).of_events rfl
    · exact hbegun.of_events rfl
  exact (hnoted _).of_events rfl

end State.EventsDistinct

theorem eventsDistinct_keptByPasses : KeptByPasses State.EventsDistinct where
  drawn _ hs := hs.of_events
  raise e _ hs := hs.raise e
  trigger c _ _ hs := hs.trigger c
  failsafe _ _ _ _ hs := (hs.trigger .failsafeEntry).of_events
  run _ _ _ hs := hs.of_events
  fallback _ _ hs := hs.of_events

theorem State.EventsDistinct.takeEpoch {s : State} (hs : s.EventsDistinct) (k : EpochKind) : (s.takeEpoch k).EventsDistinct :=
  eventsDistinct_keptByPasses.takeEpoch (fun n _ _ ht => ht.orderNode n) (fun _ ht => ht.of_events) k s (hs.computeEpoch k)

theorem eventsDistinct_keptWithin : KeptWithin State.EventsDistinct where
  toKeptByPasses := eventsDistinct_keptByPasses
  axleSpeed _ _ _ hs := hs.of_events
  ref _ _ hs := hs.of_events
  demand _ hs := hs.of_events
  source _ _ _ _ _ _ _ _ hs := hs.of_events
  restAxle _ _ hs := hs.of_events
  slip _ _ _ hs := hs.of_events
  evaluated _ _ hs := hs.of_events
  extra _ _ hs := hs.takeEpoch .extra
  report n stamp tag status achieved capability _ _ hs := hs.matchReport n stamp tag status achieved capability
  time _ _ hs := hs.of_events
  overflow _ _ hs := hs.of_events
  unclaimed _ hs := hs.of_events
  demandRefused _ hs := hs.of_events
  sampleRefused _ hs := hs.of_events
  reportRefused _ hs := hs.of_events
  responseDropped _ hs := hs.of_events
  accept _ _ _ _ _ _ _ hs := hs.of_events
  forward _ _ _ _ hs := hs.of_events
  push _ _ _ hs := hs.of_events

/-- Every elementary effect keeps one pending event of each kind and index. -/
theorem eventsDistinct_kept : Kept State.EventsDistinct where
  toKeptWithin := eventsDistinct_keptWithin
  pending _ _ hs := hs.of_events
  powerOn _ _ _ _ := .of_empty rfl
  rx _ _ _ hs := hs.of_events
  good _ _ hs := hs.of_events
  badForm _ _ hs := hs.of_events
  badCheck _ _ hs := hs.of_events
  completed _ _ _ hs := hs.of_events
  clear _ hs := hs.of_events
  loseSource _ _ _ hs := hs.of_events
  regular s _ hs := by
    unfold State.regularEpoch
    refine State.EventsDistinct.takeEpoch ?_ .regular
    exact hs.of_events rfl
  holdExpiry _ _ _ hs := hs.of_events
  lockOut _ _ _ hs := hs.of_events
  missDeadline n _ _ hs := hs.missDeadline n
  controlLoss _ _ hs := hs.of_events
  line _ _ _ _ hs := hs.of_events
  pop _ hs := hs.of_events
  part _ _ _ _ hs := hs.of_events
  validation _ _ hs := hs.of_events
  enterRun _ _ _ hs := hs.of_events rfl
  leave _ _ _ _ hs := hs.of_events
  write _ _ _ _ _ _ hs := hs.of_events
  load c s _ hs := hs.map (f := PendingEvent.shift (c - s.time.count)) rfl (fun _ => rfl) (fun _ h => h)
  readEvents _ hs := hs.drop 4
  cut _ _ hs := hs.of_events
  restore _ _ hs := hs.of_events
  markRead _ _ hs := hs.of_events
  release _ _ hs := hs.of_events
  softReset _ _ _ _ _ _ _ _ _ := .of_empty rfl

/-- Settles O42: each effect keeps one pending event of each kind and index, counted 1 to 255, and so does every step. -/
theorem eventsStayDistinct : Obligations.EventsStayDistinct :=
  eventsDistinct_kept.step

end Sys2Proof.Machine

/-! Room in the incident store and the numbers of its incidents (R153 to R155): what the store policy frees, and where the next
number moves. -/

namespace Sys2Proof.Machine

/-! ## Room in the store (R153, R154) -/

section
variable {set : RecorderSet} {now : Count} {need : Nat} {xs kept : List Incident}

theorem hasSpace_iff : hasSpace need xs = true ↔ need ≤ freeSlots xs ∧ xs.length < 16 := by
  simp [hasSpace]

/-- The store with the first `k` incidents judged, those of them freed that the store policy may free. -/
def freedFirst (set : RecorderSet) (now : Count) (k : Nat) (xs : List Incident) : List Incident :=
  (xs.take k).filter (fun x => !eligible set now x) ++ xs.drop k

@[simp] theorem freedFirst_zero : freedFirst set now 0 xs = xs := rfl

theorem freedFirst_length : freedFirst set now xs.length xs = xs.filter fun x => !eligible set now x := by
  simp [freedFirst]

theorem freedFirst_sublist (k : Nat) : (freedFirst set now k xs).Sublist xs := by
  have h : (freedFirst set now k xs).Sublist (xs.take k ++ xs.drop k) := List.filter_sublist.append (List.Sublist.refl _)
  rwa [List.take_append_drop] at h

theorem freedFirst_freed {x : Incident} (h : eligible set now x = true) (k : Nat) :
    freedFirst set now (k + 1) (x :: xs) = freedFirst set now k xs := by
  simp [freedFirst, h]

theorem freedFirst_passed {x : Incident} (h : ¬ eligible set now x = true) (k : Nat) :
    freedFirst set now (k + 1) (x :: xs) = x :: freedFirst set now k xs := by
  simp [freedFirst, h]

/-- The freeing stops at the first judged incident that leaves room. -/
theorem freeUntil_eq {k : Nat} (hk : k ≤ xs.length) (hroom : hasSpace need (kept ++ freedFirst set now k xs) = true)
    (hfirst : ∀ j < k, ¬ hasSpace need (kept ++ freedFirst set now j xs) = true) :
    freeUntil set now need kept xs = kept ++ freedFirst set now k xs := by
  induction xs generalizing kept k with
  | nil =>
    obtain rfl := Nat.le_zero.1 hk
    simp [freeUntil]
  | cons x xs ih =>
    cases k with
    | zero => simpa [freeUntil] using fun h => absurd hroom (by simpa using h)
    | succ k =>
      have hlater (j : Nat) (hj : j < k) := hfirst (j + 1) (Nat.succ_lt_succ hj)
      have hfull : ¬ hasSpace need (kept ++ x :: xs) = true := hfirst 0 (Nat.succ_pos k)
      rw [freeUntil, if_neg hfull]
      by_cases h : eligible set now x = true
      · simp only [freedFirst_freed h] at hroom hlater ⊢
        rw [if_pos h]
        exact ih (Nat.le_of_succ_le_succ hk) hroom hlater
      · simp only [freedFirst_passed h] at hroom hlater ⊢
        rw [if_neg h]
        simpa using ih (kept := kept ++ [x]) (Nat.le_of_succ_le_succ hk) (by simpa using hroom) (by simpa using hlater)

/-- Room is made by freeing as few as needed, oldest first. -/
theorem makeRoom_freed {k : Nat} (hk : k ≤ xs.length) (hroom : hasSpace need (freedFirst set now k xs) = true)
    (hfirst : ∀ j < k, ¬ hasSpace need (freedFirst set now j xs) = true)
    (hall : k = 0 ∨ hasSpace need (xs.filter fun x => !eligible set now x) = true) :
    makeRoom set now need xs = some (freedFirst set now k xs) := by
  cases k with
  | zero => exact if_pos hroom
  | succ k =>
    have hfull : ¬ hasSpace need xs = true := hfirst 0 (Nat.succ_pos k)
    rw [makeRoom, if_neg hfull, if_pos (hall.resolve_left (Nat.succ_ne_zero k)), freeUntil_eq (kept := []) hk hroom hfirst]
    rfl

theorem makeRoom_none (hfull : ¬ hasSpace need xs = true)
    (hall : ¬ hasSpace need (xs.filter fun x => !eligible set now x) = true) : makeRoom set now need xs = none := by
  simp [makeRoom, hfull, hall]

/-- What is kept is what freeing as few as needed leaves, and it leaves room. -/
theorem makeRoom_some (h : makeRoom set now need xs = some kept) : kept.Sublist xs ∧ hasSpace need kept = true := by
  classical
  have hex : ∃ k, k ≤ xs.length ∧ hasSpace need (freedFirst set now k xs) = true := by
    by_contra hno
    simp only [not_exists, not_and] at hno
    have hfull : ¬ hasSpace need xs = true := hno 0 (Nat.zero_le _)
    have hall := hno xs.length (Nat.le_refl _)
    rw [freedFirst_length] at hall
    rw [makeRoom_none hfull hall] at h
    exact nomatch h
  obtain ⟨hk, hroom⟩ := Nat.find_spec hex
  have hfirst (j : Nat) (hj : j < Nat.find hex) : ¬ hasSpace need (freedFirst set now j xs) = true := fun hs =>
    Nat.find_min hex hj ⟨Nat.le_trans (Nat.le_of_lt hj) hk, hs⟩
  have hall : Nat.find hex = 0 ∨ hasSpace need (xs.filter fun x => !eligible set now x) = true := by
    by_contra hno
    obtain ⟨hpos, hall⟩ := not_or.1 hno
    have hfull : ¬ hasSpace need xs = true := hfirst 0 (Nat.pos_of_ne_zero hpos)
    rw [makeRoom_none hfull hall] at h
    exact nomatch h
  rw [makeRoom_freed hk hroom hfirst hall] at h
  obtain rfl := Option.some.inj h
  exact ⟨freedFirst_sublist _, hroom⟩

end

/-! ## The next incident number (R155) -/

theorem numberAfter_range (n : Nat) : 1 ≤ numberAfter n ∧ numberAfter n ≤ 65535 := by
  unfold numberAfter
  split <;> omega

/-- The numbers run through 1 to 65535 and begin again. -/
theorem numberAfter_iterate (n i : Nat) :
    numberAfter^[i + 1] n = (numberAfter n - 1 + i) % 65535 + 1 := by
  obtain ⟨hlow, hhigh⟩ := numberAfter_range n
  induction i with
  | zero =>
    rw [Function.iterate_one]
    omega
  | succ i ih =>
    rw [Function.iterate_succ_apply', ih, numberAfter]
    split <;> omega

theorem numberAfter_iterate_injective {n i j : Nat} (hi : i < 65535) (hj : j < 65535)
    (h : numberAfter^[i + 1] n = numberAfter^[j + 1] n) : i = j := by
  rw [numberAfter_iterate, numberAfter_iterate] at h
  omega

/-- The tried numbers are held, and the one found is not, unless the tries ran out. -/
theorem nextFree_spec (held : List Nat) (fuel n : Nat) :
    ∃ j ≤ fuel, nextFree held fuel n = numberAfter^[j + 1] n ∧ (∀ i < j, numberAfter^[i + 1] n ∈ held) ∧
      (j < fuel → nextFree held fuel n ∉ held) := by
  induction fuel generalizing n with
  | zero => exact ⟨0, Nat.le_refl 0, rfl, nofun, nofun⟩
  | succ fuel ih =>
    by_cases hheld : numberAfter n ∈ held
    · obtain ⟨j, hj, hnext, htried, hfree⟩ := ih (numberAfter n)
      rw [nextFree, if_pos hheld]
      refine ⟨j + 1, Nat.succ_le_succ hj, hnext, fun i hi => ?_, fun hlt => hfree (Nat.lt_of_succ_lt_succ hlt)⟩
      cases i with
      | zero => exact hheld
      | succ i => exact htried i (Nat.lt_of_succ_lt_succ hi)
    · rw [nextFree, if_neg hheld]
      exact ⟨0, Nat.zero_le _, rfl, nofun, fun _ => hheld⟩

/-- With fewer numbers held than tries the number found is free, and it is the first free one. -/
theorem nextFree_first {held : List Nat} {fuel : Nat} (hfew : held.length < fuel) (hfuel : fuel ≤ 65535) (n : Nat) :
    ∃ j, nextFree held fuel n = numberAfter^[j + 1] n ∧ nextFree held fuel n ∉ held ∧
      ∀ i < j, numberAfter^[i + 1] n ∈ held := by
  obtain ⟨j, hj, hnext, htried, hfree⟩ := nextFree_spec held fuel n
  refine ⟨j, hnext, hfree (Nat.lt_of_le_of_lt ?_ hfew), htried⟩
  have hsub : (Finset.range j).image (fun i => numberAfter^[i + 1] n) ⊆ held.toFinset := fun m hm => by
    obtain ⟨i, hi, rfl⟩ := Finset.mem_image.1 hm
    exact List.mem_toFinset.2 (htried i (Finset.mem_range.1 hi))
  have hinj : Set.InjOn (fun i => numberAfter^[i + 1] n) (Finset.range j) := fun a ha b hb hab =>
    have ha := Finset.mem_range.1 ha
    have hb := Finset.mem_range.1 hb
    numberAfter_iterate_injective (by omega) (by omega) hab
  calc j = ((Finset.range j).image fun i => numberAfter^[i + 1] n).card := by
        rw [Finset.card_image_of_injOn hinj, Finset.card_range]
    _ ≤ held.toFinset.card := Finset.card_le_card hsub
    _ ≤ held.length := held.toFinset_card_le

theorem nextFree_range (held : List Nat) (fuel n : Nat) : 1 ≤ nextFree held fuel n ∧ nextFree held fuel n ≤ 65535 := by
  obtain ⟨j, -, hnext, -⟩ := nextFree_spec held fuel n
  rw [hnext, Function.iterate_succ_apply']
  exact numberAfter_range _

end Sys2Proof.Machine

/-! Invariants of the recorder: the operations that reach the recorder through a trigger alone keep what a trigger keeps, and what
the recorder's own operations keep, every step keeps. -/

namespace Sys2Proof.Machine

/-- What the recorder's invariants speak of: the recorder with its set, the part state, and the numbers of the present epoch and of
the last publication. -/
def State.recorderView (s : State) : RecorderBlock × RecorderSet × PartState × Counter × Counter :=
  (s.recorder, s.tables.recorder, s.agent.part, s.blend.epoch, s.blend.pub.epoch)

/-- `P` is a matter of the recorder's view, and triggers and an entry into FAILSAFE keep it. -/
structure RecorderStands (P : State → Prop) : Prop where
  view : ∀ s t, t.recorderView = s.recorderView → P s → P t
  trigger : ∀ c s, c ≠ .failsafeEntry → P s → P (s.trigger c)
  failsafe : ∀ c n s, s.agent.part = .run → P s →
    P (State.leaveRun .failsafe (State.setCause c n (s.trigger .failsafeEntry)))

namespace RecorderStands

variable {P : State → Prop}

/-- An effect that leaves the recorder's view alone. -/
theorem of_view (h : RecorderStands P) {s t : State} (hs : P s) (hv : t.recorderView = s.recorderView := by
    simp [State.recorderView]) : P t :=
  h.view s t hv hs

theorem keptByPasses (h : RecorderStands P) : KeptByPasses P where
  drawn _ hs := h.of_view hs
  raise _ _ hs := h.of_view hs
  trigger := h.trigger
  failsafe := h.failsafe
  run _ _ _ hs := h.of_view hs
  fallback _ _ hs := h.of_view hs

/-! ## Order unit -/

theorem transitionEffects (h : RecorderStands P) (n : NodeSlot) (x y : NodeState) (s : State) (hs : P s) :
    P (s.transitionEffects n x y) := by
  unfold State.transitionEffects
  split
  · exact h.of_view hs
  · split
    · exact h.of_view (h.trigger (.nodeLost n) _ nofun (h.of_view hs : P (s.raise (.nodeLost n))))
    · exact hs

theorem takeOutcome (h : RecorderStands P) (n : NodeSlot) (good : Bool) (s : State) (hs : P s) : P (s.takeOutcome n good) := by
  obtain ⟨timer, htaken⟩ := State.takeOutcome_eq n good s
  have hsup : P (s.supTaken n good) := h.of_view hs rfl
  rw [htaken]
  exact h.of_view (h.transitionEffects n _ _ _ hsup) rfl

theorem supersede (h : RecorderStands P) (n : NodeSlot) (s : State) (hs : P s) : P (s.supersede n) := by
  cases hexch : (s.node n).exch.awaiting with
  | false => rwa [State.supersede_idle hexch]
  | true =>
    rw [State.supersede_awaiting hexch]
    exact h.of_view (h.takeOutcome n false _ (h.of_view hs : P (s.onNode n (NodeRec.miss false))))

theorem issueOrder (h : RecorderStands P) (n : NodeSlot) (s : State) (hs : P s) : P (s.issueOrder n) := by
  rcases Nat.lt_or_ge s.link.portB.originated.length 12 with hroom | hfull
  · rw [State.issueOrder_accepted hroom]
    exact h.of_view hs
  · rw [State.issueOrder_notSent hfull]
    exact h.takeOutcome n false _ (h.of_view hs : P (s.onNode n NodeRec.notSent))

theorem orderNode (h : RecorderStands P) (n : NodeSlot) (s : State) (hs : P s) : P (s.orderNode n) := by
  unfold State.orderNode
  split
  · exact h.issueOrder n _ (h.supersede n s hs)
  · exact hs

theorem orderAll (h : RecorderStands P) (s : State) (hs : P s) : P s.orderAll := by
  unfold State.orderAll
  split
  · exact foldl_keeps P State.orderNode (fun t n ht => h.orderNode n t ht) _ _ hs
  · exact hs

theorem matchReport (h : RecorderStands P) (n : NodeSlot) (stamp : Count) (tag : Byte) (status achieved capability : Nat)
    (s : State) (hs : P s) : P (s.matchReport n stamp tag status achieved capability) := by
  unfold State.matchReport
  dsimp only
  split
  · have htaken := h.takeOutcome n (reportGood status (s.node n).exch.control) _
      (h.of_view hs : P (s.onNode n (NodeRec.answered (reportGood status (s.node n).exch.control) stamp)))
    split
    · exact h.of_view htaken
    · exact htaken
  · exact h.of_view hs

theorem missDeadline (h : RecorderStands P) (n : NodeSlot) (s : State) (hs : P s) : P (s.missDeadline n) := by
  unfold State.missDeadline
  split
  · exact h.takeOutcome n false _ (h.of_view hs : P (s.onNode n (NodeRec.miss true)))
  · exact hs

end RecorderStands

/-- Beside what `RecorderStands` asks, epochs and the other effects that reach the recorder's view keep `P`. -/
structure RecorderInvariant (P : State → Prop) : Prop extends RecorderStands P where
  epoch : ∀ k s, P s → P (s.takeEpoch k)
  line : ∀ l e d s, P s → P (s.setRecorder { s.recorder with lineActive := l, edge := e, debounce := d })
  powerOn : ∀ x l (s : State), P { State.powerOn x l with pending := s.pending, draws := s.draws }
  part : ∀ p s, s.agent.part ≠ .run → p ≠ .run → P s → P (s.withPart p)
  enterRun : ∀ s, s.agent.part ≠ .run → P s → P s.enterRun
  leave : ∀ p s, p ≠ .run → P s → P (s.leaveRun p)
  write : ∀ e d t s, s.agent.part ≠ .run → s.tables.written s.link.own e d = some t → P s → P { s with tables := t }
  load : ∀ c s, P s → P (s.loadCount c)
  markRead : ∀ n s, P s → P (s.markRead n)
  release : ∀ n s, P s → P (s.release n)
  softReset : ∀ a b s, s.agent.part ≠ .run → P s → P (s.softReset a b)

namespace RecorderInvariant

variable {P : State → Prop}

theorem keptWithin (h : RecorderInvariant P) : KeptWithin P where
  toKeptByPasses := h.keptByPasses
  axleSpeed _ _ _ hs := h.of_view hs
  ref _ _ hs := h.of_view hs
  demand _ hs := h.of_view hs
  source _ _ _ _ _ _ _ _ hs := h.of_view hs
  restAxle _ _ hs := h.of_view hs
  slip _ _ _ hs := h.of_view hs
  evaluated _ _ hs := h.of_view hs
  extra s _ hs := h.epoch .extra s hs
  report n stamp tag status achieved capability s _ hs := h.matchReport n stamp tag status achieved capability s hs
  time _ _ hs := h.of_view hs
  overflow _ _ hs := h.of_view hs
  unclaimed _ hs := h.of_view hs
  demandRefused _ hs := h.of_view hs
  sampleRefused _ hs := h.of_view hs
  reportRefused _ hs := h.of_view hs
  responseDropped _ hs := h.of_view hs
  accept _ _ _ _ _ _ _ hs := h.of_view hs
  forward _ _ _ _ hs := h.of_view hs
  push _ _ _ hs := h.of_view hs

/-- What the effects on the recorder's view keep, every elementary effect keeps. -/
theorem kept (h : RecorderInvariant P) : Kept P where
  toKeptWithin := h.keptWithin
  pending _ _ hs := h.of_view hs
  powerOn x l s _ := h.powerOn x l s
  rx _ _ _ hs := h.of_view hs
  good _ _ hs := h.of_view hs
  badForm _ _ hs := h.of_view hs
  badCheck _ _ hs := h.of_view hs
  completed _ _ _ hs := h.of_view hs
  clear _ hs := h.of_view hs
  loseSource _ _ _ hs := h.of_view hs
  regular s _ hs := h.epoch .regular _ (h.of_view hs rfl)
  holdExpiry _ _ _ hs := h.of_view hs
  lockOut _ _ _ hs := h.of_view hs
  missDeadline n s _ hs := h.missDeadline n s hs
  controlLoss _ _ hs := h.of_view hs
  line := h.line
  pop _ hs := h.of_view hs
  part := h.part
  validation _ _ hs := h.of_view hs
  enterRun s hc _ hs := h.enterRun s (by simp [hc]) hs
  leave p s _ hp hs := h.leave p s hp hs
  write := h.write
  load c s _ hs := h.load c s hs
  readEvents _ hs := h.of_view hs
  cut _ _ hs := h.of_view hs
  restore _ _ hs := h.of_view hs
  markRead := h.markRead
  release := h.release
  softReset a b s hr hs _ _ _ _ := h.softReset a b s hr hs

end RecorderInvariant

end Sys2Proof.Machine

/-! The incident store keeps its bounds, one OPEN incident and distinct numbers (R153 to R158). -/

namespace Sys2Proof.Machine

/-! ## Slots (R153) -/

theorem Incident.slots_opened {x : Incident} (h : x.state = .opened) : x.slots = x.reserved := if_pos h

theorem Incident.slots_closed {x : Incident} (h : x.state ≠ .opened) : x.slots = x.snaps.length := if_neg h

theorem slotsHeld_append (xs ys : List Incident) : slotsHeld (xs ++ ys) = slotsHeld xs + slotsHeld ys := by
  simp [slotsHeld]

theorem slotsHeld_sublist {xs ys : List Incident} (h : xs.Sublist ys) : slotsHeld xs ≤ slotsHeld ys :=
  (h.map Incident.slots).sum_le_sum fun _ _ => Nat.zero_le _

/-- A change that gives each OPEN incident at most `d` slots more. -/
theorem slotsHeld_map_le {f : Incident → Incident} {d : Nat} {xs : List Incident}
    (h : ∀ x ∈ xs, (f x).slots ≤ x.slots + if x.state = .opened then d else 0) :
    slotsHeld (xs.map f) ≤ slotsHeld xs + d * xs.countP fun x => x.state = .opened := by
  induction xs with
  | nil => exact Nat.zero_le _
  | cons x xs ih =>
    have hx := h x List.mem_cons_self
    have hxs := ih fun y hy => h y (List.mem_cons_of_mem x hy)
    simp only [slotsHeld, List.map_cons, List.sum_cons, List.countP_cons, decide_eq_true_eq] at hxs ⊢
    by_cases hopened : x.state = .opened
    · rw [if_pos hopened] at hx ⊢
      rw [Nat.mul_add]
      omega
    · rw [if_neg hopened] at hx ⊢
      rw [Nat.add_zero]
      omega

/-! ## A store within its bounds -/

/-- The bounds and the numbering of the store, whatever an OPEN incident still expects. -/
structure RecorderBlock.StoreFits (r : RecorderBlock) : Prop where
  entries : r.incidents.length ≤ 16
  slots : slotsHeld r.incidents ≤ 1024
  oneOpen : (r.incidents.countP fun x => x.state = .opened) ≤ 1
  numbers : (r.incidents.map Incident.number).Nodup
  unused : r.nextNumber ∉ r.incidents.map Incident.number
  range : 1 ≤ r.nextNumber ∧ r.nextNumber ≤ 65535
  reserved : ∀ x ∈ r.incidents, x.state = .opened → x.reserved = x.snaps.length + x.remaining

namespace RecorderBlock.StoreFits

variable {r t : RecorderBlock}

theorem powerOn (lineActive : Bool) : (RecorderBlock.powerOn lineActive).StoreFits :=
  ⟨Nat.zero_le _, Nat.zero_le _, Nat.zero_le _, List.nodup_nil, nofun, ⟨Nat.le_refl 1, (by decide : 1 ≤ 65535)⟩, nofun⟩

/-- Fewer incidents, under the same next number. -/
theorem sublist (hr : r.StoreFits) (hi : t.incidents.Sublist r.incidents) (hn : t.nextNumber = r.nextNumber := by rfl) :
    t.StoreFits where
  entries := Nat.le_trans hi.length_le hr.entries
  slots := Nat.le_trans (slotsHeld_sublist hi) hr.slots
  oneOpen := Nat.le_trans hi.countP_le hr.oneOpen
  numbers := hr.numbers.sublist (hi.map _)
  unused := fun hm => hr.unused (hn ▸ (hi.map _).subset hm)
  range := hn ▸ hr.range
  reserved x hx := hr.reserved x (hi.subset hx)

/-- A change of each incident that keeps its number, opens none and gives the OPEN one no more than the free slots. -/
theorem map (hr : r.StoreFits) {f : Incident → Incident} {d : Nat} (hd : d ≤ freeSlots r.incidents)
    (hnumber : ∀ x, (f x).number = x.number)
    (hslots : ∀ x ∈ r.incidents, (f x).slots ≤ x.slots + if x.state = .opened then d else 0)
    (hopen : ∀ x ∈ r.incidents, (f x).state = .opened →
      x.state = .opened ∧ (f x).reserved = (f x).snaps.length + (f x).remaining)
    (hi : t.incidents = r.incidents.map f := by rfl) (hn : t.nextNumber = r.nextNumber := by rfl) : t.StoreFits := by
  have hnumbers : t.incidents.map Incident.number = r.incidents.map Incident.number := by
    rw [hi, List.map_map]
    exact List.map_congr_left fun x _ => hnumber x
  refine ⟨?_, ?_, ?_, hnumbers ▸ hr.numbers, hnumbers ▸ hn ▸ hr.unused, hn ▸ hr.range, fun y hy hopened => ?_⟩
  · rw [hi, List.length_map]
    exact hr.entries
  · have hheld := slotsHeld_map_le hslots
    have hgrown := Nat.mul_le_mul_left d hr.oneOpen
    have hslots := hr.slots
    unfold freeSlots at hd
    rw [hi]
    omega
  · rw [hi, List.countP_map]
    refine Nat.le_trans (List.countP_mono_left fun x hx hfx => ?_) hr.oneOpen
    exact decide_eq_true (hopen x hx (of_decide_eq_true hfx)).1
  · rw [hi] at hy
    obtain ⟨x, hx, rfl⟩ := List.mem_map.1 hy
    exact (hopen x hx hopened).2

/-- A change of each incident that keeps its number, and its state, slots and expected snapshots. -/
theorem map_same (hr : r.StoreFits) {f : Incident → Incident} (hnumber : ∀ x, (f x).number = x.number)
    (hlength : ∀ x, (f x).snaps.length = x.snaps.length) (hreserved : ∀ x, (f x).reserved = x.reserved)
    (hremaining : ∀ x, (f x).remaining = x.remaining) (hstate : ∀ x, (f x).state = .opened ↔ x.state = .opened)
    (hi : t.incidents = r.incidents.map f := by rfl) (hn : t.nextNumber = r.nextNumber := by rfl) : t.StoreFits := by
  refine hr.map (Nat.zero_le _) hnumber (fun x _ => ?_) (fun x hx hopened => ?_) hi hn
  · simp [Incident.slots, hstate, hlength, hreserved]
  · have hx := hr.reserved x hx ((hstate x).1 hopened)
    exact ⟨(hstate x).1 hopened, by rw [hlength, hreserved, hremaining, hx]⟩

/-- A change of the OPEN incident. -/
theorem onOpen (hr : r.StoreFits) {g : Incident → Incident} {d : Nat} (hd : d ≤ freeSlots r.incidents)
    (hnumber : ∀ x, (g x).number = x.number)
    (hslots : ∀ x ∈ r.incidents, x.state = .opened → (g x).slots ≤ x.reserved + d)
    (hopen : ∀ x ∈ r.incidents, x.state = .opened → (g x).state = .opened →
      (g x).reserved = (g x).snaps.length + (g x).remaining) : (r.onOpen g).StoreFits := by
  refine hr.map hd (fun x => ?_) (fun x hx => ?_) (fun x hx hstill => ?_)
  · split
    · exact hnumber x
    · rfl
  · by_cases hopened : x.state = .opened
    · rw [if_pos hopened, if_pos hopened, Incident.slots_opened hopened]
      exact hslots x hx hopened
    · rw [if_neg hopened, if_neg hopened]
      exact Nat.le_refl _
  · by_cases hopened : x.state = .opened
    · rw [if_pos hopened] at hstill ⊢
      exact ⟨hopened, hopen x hx hopened hstill⟩
    · rw [if_neg hopened] at hstill
      exact absurd hstill hopened

/-- The closing of an OPEN incident returns its unfilled slots (R158). -/
theorem leaveRun (hr : r.StoreFits) (now : Count) : (r.leaveRun now).StoreFits := by
  refine hr.onOpen (Nat.zero_le _) (fun _ => rfl) (fun x hx hopened => ?_) fun _ _ _ => nofun
  have hreserved := hr.reserved x hx hopened
  rw [Incident.slots_closed (x := x.cut now) nofun]
  simp only [Incident.cut]
  omega

/-- An extension takes no more than the free slots (R157). -/
theorem retriggered (hr : r.StoreFits) (set : RecorderSet) (c : Cause) (now : Count) :
    (r.onOpen (retriggered set c now r.edge (freeSlots r.incidents))).StoreFits := by
  refine hr.onOpen (Nat.le_refl _) (fun _ => rfl) (fun x hx hopened => ?_) fun x hx hopened _ => ?_
  · rw [Incident.slots_opened (by exact hopened)]
    exact Nat.add_le_add_left (Nat.min_le_right _ _) _
  · have hreserved := hr.reserved x hx hopened
    simp only [Machine.retriggered]
    omega

/-- An incident opens in what is kept of a store that holds no OPEN one (R153, R155). -/
theorem opened {s : State} {c : Cause} {kept : List Incident} (hr : s.recorder.StoreFits) (hk : kept.Sublist s.recorder.incidents)
    (hnone : ∀ x ∈ s.recorder.incidents, x.state ≠ .opened) (hspace : hasSpace (s.slotsAsked c) kept = true) :
    (Machine.openIncident s c kept).recorder.StoreFits := by
  obtain ⟨hneed, hentries⟩ := hasSpace_iff.1 hspace
  have hkept : slotsHeld kept ≤ 1024 := Nat.le_trans (slotsHeld_sublist hk) hr.slots
  have hnumbers : ((kept ++ [openedIncident s c]).map Incident.number).Nodup := by
    rw [List.map_append, List.map_singleton, ← List.concat_eq_append]
    exact (hr.numbers.sublist (hk.map _)).concat fun hm => hr.unused ((hk.map _).subset hm)
  have hfew : ((kept ++ [openedIncident s c]).map Incident.number).length < 17 := by simpa using Nat.succ_lt_succ hentries
  obtain ⟨_, -, hunused, -⟩ := nextFree_first hfew (by decide) s.recorder.nextNumber
  refine ⟨?_, ?_, ?_, hnumbers, hunused, nextFree_range _ _ _, fun x hx hopened => ?_⟩
  · simpa [Machine.openIncident] using hentries
  · have hasked : slotsHeld [openedIncident s c] = s.slotsAsked c := by
      simp [slotsHeld, Incident.slots, openedIncident, State.slotsAsked]
    show slotsHeld (kept ++ [openedIncident s c]) ≤ 1024
    rw [slotsHeld_append, hasked]
    unfold freeSlots at hneed
    omega
  · have hclosed : (kept.countP fun x => x.state = .opened) = 0 :=
      List.countP_eq_zero.2 fun x hx => by simpa using hnone x (hk.subset hx)
    show ((kept ++ [openedIncident s c]).countP fun x => x.state = .opened) ≤ 1
    rw [List.countP_append, hclosed, Nat.zero_add]
    exact List.countP_le_length
  · rcases List.mem_append.1 hx with hx | hx
    · exact hr.reserved x (hk.subset hx) hopened
    · obtain rfl := List.mem_singleton.1 hx
      rfl

end RecorderBlock.StoreFits

/-! ## What a trigger can do (R152 to R157) -/

theorem RecorderBlock.openIncident_none_iff {r : RecorderBlock} :
    r.openIncident = none ↔ ∀ x ∈ r.incidents, x.state ≠ .opened := by
  simp [RecorderBlock.openIncident]

theorem State.running_of_takesTrigger {s : State} {c : Cause} (h : s.takesTrigger c = true) : s.agent.part = .run := by
  simp only [State.takesTrigger, State.running, Bool.and_eq_true, beq_iff_eq] at h
  exact h.1

/-- What a trigger can do to the recorder: nothing, the extension of the OPEN incident, the opening of one in a store with room, or
the count of a lost trigger (R152 to R157). -/
theorem State.trigger_recorder (c : Cause) (s : State) :
    (s.trigger c).recorder = s.recorder ∨
    (s.agent.part = .run ∧ (s.trigger c).recorder = s.recorder.onOpen
      (retriggered s.tables.recorder c s.now s.recorder.edge (freeSlots s.recorder.incidents))) ∨
    (∃ kept, s.agent.part = .run ∧ (s.trigger c).recorder = (Machine.openIncident s c kept).recorder ∧
      kept.Sublist s.recorder.incidents ∧ hasSpace (s.slotsAsked c) kept = true ∧
      ∀ x ∈ s.recorder.incidents, x.state ≠ .opened) ∨
    (s.trigger c).recorder = { s.recorder with lost := bump 65535 s.recorder.lost } := by
  cases htakes : s.takesTrigger c with
  | false => exact .inl (by rw [State.trigger_ignored htakes])
  | true =>
    have hrun := State.running_of_takesTrigger htakes
    cases hopen : s.recorder.openIncident with
    | some x =>
      rw [State.trigger_added htakes hopen]
      exact .inr (.inl ⟨hrun, rfl⟩)
    | none =>
      cases hroom : makeRoom s.tables.recorder s.now (s.slotsAsked c) s.recorder.incidents with
      | some kept =>
        obtain ⟨hkept, hspace⟩ := makeRoom_some hroom
        rw [State.trigger_opened htakes hopen hroom]
        exact .inr (.inr (.inl ⟨kept, hrun, rfl, hkept, hspace, RecorderBlock.openIncident_none_iff.1 hopen⟩))
      | none =>
        rw [State.trigger_refused htakes hopen hroom]
        exact .inr (.inr (.inr rfl))

theorem RecorderBlock.StoreFits.trigger {s : State} (hr : s.recorder.StoreFits) (c : Cause) : (s.trigger c).recorder.StoreFits := by
  rcases s.trigger_recorder c with h | ⟨-, h⟩ | ⟨kept, -, h, hkept, hspace, hnone⟩ | h
  · rwa [h]
  · rw [h]
    exact hr.retriggered _ c _
  · rw [h]
    exact hr.opened hkept hnone hspace
  · rw [h]
    exact hr.sublist (.refl _)

/-! ## A snapshot joins the OPEN incident (R156) -/

section
variable {snap : Snapshot} {now : Count} {x : Incident}

/-- The OPEN incident after a snapshot, by what it expected. -/
theorem appended_eq (snap : Snapshot) (now : Count) (x : Incident) : appended snap now x =
    if x.remaining ≤ 1 then
      { x with snaps := x.snaps ++ [snap], remaining := x.remaining - 1, state := .closedUnread, closeStamp := some now
               reserved := x.snaps.length + 1 }
    else { x with snaps := x.snaps ++ [snap], remaining := x.remaining - 1 } := by
  simp only [appended, Nat.sub_eq_zero_iff_le, List.length_append, List.length_singleton]

theorem appended_number : (appended snap now x).number = x.number := by
  rw [appended_eq]
  split <;> rfl

/-- The snapshot takes one of the reserved slots. -/
theorem appended_slots (hopened : x.state = .opened) (hexpects : 1 ≤ x.remaining)
    (hreserved : x.reserved = x.snaps.length + x.remaining) : (appended snap now x).slots = x.reserved := by
  rw [appended_eq]
  split
  · refine (Incident.slots_closed (by exact nofun)).trans ?_
    rw [List.length_append, List.length_singleton]
    omega
  · exact Incident.slots_opened (by exact hopened)

/-- An incident that a snapshot leaves OPEN expects another one. -/
theorem appended_opened (hreserved : x.reserved = x.snaps.length + x.remaining) (hstill : (appended snap now x).state = .opened) :
    1 ≤ (appended snap now x).remaining ∧
      (appended snap now x).reserved = (appended snap now x).snaps.length + (appended snap now x).remaining := by
  rw [appended_eq] at hstill ⊢
  split at hstill
  · exact nomatch hstill
  · rw [if_neg ‹_›]
    simp only [List.length_append, List.length_singleton]
    omega

end

/-! ## The post-trigger count under WRITE_ENTRY (R169) -/

/-- A value that WRITE_ENTRY accepts is no less than its field's least. -/
theorem le_fieldAt_of_inRanges {fs : List Field} {vs : List Nat} {k : Nat} {f : Field} (h : inRanges fs vs = true)
    (hf : fs[k]? = some f) : f.lo ≤ fieldAt vs k := by
  induction fs generalizing vs k with
  | nil => exact nomatch hf
  | cons g fs ih =>
    match vs, h with
    | v :: vs, h =>
      simp only [inRanges, Bool.and_eq_true, decide_eq_true_eq] at h
      obtain ⟨⟨hv, -⟩, hvs⟩ := h
      match k with
      | 0 =>
        obtain rfl := Option.some.inj hf
        exact hv
      | k + 1 => exact ih (vs := vs) (k := k) hvs hf

/-- A write of another table's entry leaves the RECORDER set alone. -/
theorem Tables.withFields_recorder {own : Byte} {t u : Tables} {e : TableRef} {vs : List Nat} (h : t.withFields own e vs = some u)
    (he : e ≠ .recorder) : u.recorder = t.recorder := by
  cases e with
  | recorder => exact absurd rfl he
  | classify | node | monitor =>
    obtain ⟨_, -, rfl⟩ := Option.map_eq_some_iff.1 h
    rfl
  | link =>
    simp only [Tables.withFields] at h
    split at h
    · exact nomatch h
    · obtain rfl := Option.some.inj h
      rfl
  | axle | curvePoint | curveCount | blend | truck | ramp | speed | slide | time =>
    obtain rfl := Option.some.inj h
    rfl

theorem post_powerOn : 1 ≤ Tables.powerOn.recorder.post := by decide

/-- A written post-trigger count lies in its range (Table 10-1). -/
theorem Tables.post_written {own : Byte} {t u : Tables} {e : TableRef} {data : List Byte} (h : t.written own e data = some u)
    (ht : 1 ≤ t.recorder.post) : 1 ≤ u.recorder.post := by
  unfold Tables.written at h
  dsimp only at h
  split at h
  · rename_i hranges
    by_cases he : e = .recorder
    · subst he
      obtain rfl := Option.some.inj h
      exact le_fieldAt_of_inRanges (k := 1) hranges rfl
    · rw [Tables.withFields_recorder h he]
      exact ht
  · exact nomatch h

/-! ## The invariant -/

namespace State.StoreSound

variable {s t : State}

theorem fits (hs : s.StoreSound) : s.recorder.StoreFits :=
  ⟨hs.entries, hs.slots, hs.oneOpen, hs.numbers, hs.unused, hs.range, fun x hx hopened => (hs.opened x hx hopened).2.2⟩

theorem of_fits (hr : s.recorder.StoreFits) (hp : 1 ≤ s.tables.recorder.post)
    (ho : ∀ x ∈ s.recorder.incidents, x.state = .opened → s.agent.part = .run ∧ 1 ≤ x.remaining) : s.StoreSound :=
  ⟨hr.entries, hr.slots, hr.oneOpen, hr.numbers, hr.unused, hr.range, fun x hx hopened =>
    let ⟨hrun, hexpects⟩ := ho x hx hopened
    ⟨hrun, hexpects, hr.reserved x hx hopened⟩, hp⟩

/-- An OPEN incident stands in RUN and expects a snapshot. -/
theorem expects (hs : s.StoreSound) :
    ∀ x ∈ s.recorder.incidents, x.state = .opened → s.agent.part = .run ∧ 1 ≤ x.remaining :=
  fun x hx hopened =>
    let ⟨hrun, hexpects, _⟩ := hs.opened x hx hopened
    ⟨hrun, hexpects⟩

/-- No incident is OPEN outside RUN. -/
theorem closed (hs : s.StoreSound) (hr : s.agent.part ≠ .run) : ∀ x ∈ s.recorder.incidents, x.state ≠ .opened :=
  fun x hx hopened => hr (hs.expects x hx hopened).1

/-- The invariant is a matter of the store, the post-trigger count and the part state. -/
theorem of_store (hs : s.StoreSound) (hi : t.recorder.incidents = s.recorder.incidents := by simp)
    (hn : t.recorder.nextNumber = s.recorder.nextNumber := by simp)
    (hp : t.tables.recorder.post = s.tables.recorder.post := by simp)
    (ha : t.agent.part = s.agent.part := by simp) : t.StoreSound :=
  of_fits (hs.fits.sublist (hi ▸ .refl _) hn) (hp ▸ hs.post) (hi ▸ ha ▸ hs.expects)

theorem of_closed (hr : s.recorder.StoreFits) (hp : 1 ≤ s.tables.recorder.post)
    (hc : ∀ x ∈ s.recorder.incidents, x.state ≠ .opened) : s.StoreSound :=
  of_fits hr hp fun x hx hopened => absurd hopened (hc x hx)

/-- A trigger of a cause that post-trigger snapshots follow leaves the OPEN incident expecting one. -/
theorem trigger (hs : s.StoreSound) {c : Cause} (hc : c ≠ .failsafeEntry) : (s.trigger c).StoreSound := by
  refine of_fits (hs.fits.trigger c) (by simpa using hs.post) ?_
  have hagent : (s.trigger c).agent = s.agent := by simp
  rw [hagent]
  rcases s.trigger_recorder c with h | ⟨-, h⟩ | ⟨kept, hrun, h, hkept, -⟩ | h <;> rw [h]
  · exact hs.expects
  · intro y hy hopened
    obtain ⟨x, hx, rfl⟩ := List.mem_map.1 hy
    split at hopened
    · obtain ⟨hrun, hexpects⟩ := hs.expects x hx ‹_›
      rw [if_pos ‹_›]
      exact ⟨hrun, Nat.le_trans hexpects (Nat.le_add_right _ _)⟩
    · exact absurd hopened ‹_›
  · intro x hx hopened
    rcases List.mem_append.1 hx with hx | hx
    · exact hs.expects x (hkept.subset hx) hopened
    · obtain rfl := List.mem_singleton.1 hx
      exact ⟨hrun, by simpa [openedIncident, postFor, hc] using hs.post⟩
  · exact hs.expects

/-- A departure from RUN leaves no incident OPEN (R158). -/
theorem of_leaveRun (hr : s.recorder.StoreFits) (hp : 1 ≤ s.tables.recorder.post) (p : PartState) :
    (s.leaveRun p).StoreSound := by
  obtain ⟨-, -, -, -, hrecorder⟩ := s.leaveRun_blocks p
  refine of_closed (hrecorder ▸ hr.leaveRun s.now) (by simpa using hp) ?_
  rw [hrecorder]
  exact s.recorder.leaveRun_closed s.now

/-- A snapshot takes one of the slots that the OPEN incident reserves, and closes it with the last one (R156). -/
theorem takeSnapshot (hs : s.StoreSound) : s.takeSnapshot.StoreSound := by
  unfold State.takeSnapshot
  split
  · have hfits : RecorderBlock.StoreFits
        { s.recorder with ring := ringWith s.tables.recorder.depth s.recorder.ring s.snapshot } :=
      hs.fits.sublist (.refl _)
    refine of_fits (hfits.onOpen (Nat.zero_le _) (fun _ => appended_number) (fun x hx hopened => ?_) fun x hx hopened hstill => ?_)
      hs.post fun y hy hstill => ?_
    · obtain ⟨-, hexpects, hreserved⟩ := hs.opened x hx hopened
      exact Nat.le_of_eq (appended_slots hopened hexpects hreserved)
    · obtain ⟨-, -, hreserved⟩ := hs.opened x hx hopened
      exact (appended_opened hreserved hstill).2
    · obtain ⟨x, hx, rfl⟩ := List.mem_map.1 hy
      by_cases hopened : x.state = .opened
      · obtain ⟨hrun, -, hreserved⟩ := hs.opened x hx hopened
        rw [if_pos hopened] at hstill ⊢
        exact ⟨hrun, (appended_opened hreserved hstill).1⟩
      · rw [if_neg hopened] at hstill
        exact absurd hstill hopened
  · exact hs

end State.StoreSound

/-- The end of a readout, judged incident by incident (R161, R162). -/
theorem State.markRead_some (n : Nat) (s : State) :
    s.markRead (some n) = s.setRecorder { s.recorder with
      incidents := s.recorder.incidents.map fun x =>
        if x.number = n ∧ x.state = .closedUnread then { x with state := .closedRead } else x } := by
  unfold State.markRead Incident.read
  simp only [ite_and]

theorem storeSound_stands : RecorderStands State.StoreSound where
  view s t hv hs := by
    simp only [State.recorderView, Prod.mk.injEq] at hv
    obtain ⟨hrecorder, hset, hpart, -, -⟩ := hv
    exact hs.of_store (by rw [hrecorder]) (by rw [hrecorder]) (by rw [hset]) hpart
  trigger _ _ hc hs := hs.trigger hc
  failsafe c n s _ hs := by
    have hfits : (State.setCause c n (s.trigger .failsafeEntry)).recorder.StoreFits := hs.fits.trigger .failsafeEntry
    exact .of_leaveRun hfits (by simpa using hs.post) .failsafe

theorem storeSound_invariant : RecorderInvariant State.StoreSound where
  toRecorderStands := storeSound_stands
  epoch k s hs := storeSound_stands.keptByPasses.takeEpoch (fun n t _ ht => storeSound_stands.orderNode n t ht)
    (fun _ ht => ht.takeSnapshot) k s hs.of_store
  line _ _ _ _ hs := hs.of_store
  powerOn _ _ _ := .of_closed (RecorderBlock.StoreFits.powerOn _) post_powerOn nofun
  part _ _ hr _ hs := .of_closed hs.fits hs.post (hs.closed hr)
  enterRun _ hr hs := .of_closed (hs.fits.sublist (.refl _)) hs.post (hs.closed hr)
  leave p _ _ hs := .of_leaveRun hs.fits hs.post p
  write _ _ _ _ _ hw hs := { hs with post := Tables.post_written hw hs.post }
  load c s hs := by
    have hfits : (s.loadCount c).recorder.StoreFits :=
      hs.fits.map_same (f := Incident.shift (c - s.now)) (fun _ => rfl) (fun _ => List.length_map _) (fun _ => rfl) (fun _ => rfl)
        fun _ => Iff.rfl
    refine .of_fits hfits hs.post fun y hy hopened => ?_
    obtain ⟨x, hx, rfl⟩ := List.mem_map.1 hy
    exact hs.expects x hx hopened
  markRead n s hs := by
    cases n with
    | none => exact hs
    | some n =>
      rw [State.markRead_some]
      refine .of_fits (hs.fits.map_same ?_ ?_ ?_ ?_ ?_) hs.post fun y hy hopened => ?_
      iterate 4 exact fun x => by split <;> rfl
      · exact fun x => by split <;> simp_all
      · obtain ⟨x, hx, rfl⟩ := List.mem_map.1 hy
        split at hopened
        · exact nomatch hopened
        · rw [if_neg ‹_›]
          exact hs.expects x hx hopened
  release n _ hs := .of_fits (hs.fits.sublist List.filter_sublist) hs.post fun x hx => hs.expects x (List.mem_of_mem_filter hx)
  softReset _ _ _ hr hs := .of_closed (hs.fits.sublist (.refl _)) hs.post (hs.closed hr)

/-- Settles O49: the recorder's own operations keep the store sound, and so does every step. -/
theorem storeStaysSound : Obligations.StoreStaysSound :=
  storeSound_invariant.kept.step

end Sys2Proof.Machine

/-! The pre-trigger ring holds consecutive epochs up to the last one taken (R151). Within an epoch the ring is one behind from the
publication to the recorder's reaction. -/

namespace Sys2Proof.Machine

/-! ## Consecutive epochs -/

theorem risingEpochs_iff (l : List Snapshot) : risingEpochs l ↔ l.IsChain fun x y => y.epoch = x.epoch + 1 := by
  fun_induction risingEpochs l with
  | case1 x y rest ih => rw [List.isChain_cons_cons, ih]
  | case2 l h =>
    match l, h with
    | [], _ => simp
    | [x], _ => simp
    | x :: y :: rest, h => exact absurd rfl (h x y rest)

/-- The ring after the next snapshot holds consecutive epochs, if the snapshot is that of the next epoch. -/
theorem risingEpochs_ringWith {ring : List Snapshot} {x : Snapshot} (depth : Nat) (h : risingEpochs ring)
    (hx : ∀ y, ring.getLast? = some y → x.epoch = y.epoch + 1) : risingEpochs (ringWith depth ring x) := by
  rw [risingEpochs_iff] at h ⊢
  refine List.IsChain.drop ?_ _
  refine h.append (List.isChain_singleton x) fun y hy z hz => ?_
  obtain rfl : x = z := by simpa using hz
  exact hx y hy

theorem ringWith_length (depth : Nat) (ring : List Snapshot) (x : Snapshot) : (ringWith depth ring x).length ≤ depth := by
  rw [ringWith, List.length_drop]
  omega

theorem ringWith_getLast {depth : Nat} {ring : List Snapshot} {x y : Snapshot} (h : (ringWith depth ring x).getLast? = some y) :
    y = x := by
  rw [ringWith, List.getLast?_drop] at h
  split at h
  · exact nomatch h
  · simpa using h.symm

/-! ## The ring `k` epochs behind -/

/-- The pre-trigger ring is sound but for its last epoch, which in RUN lies `k` epochs back. -/
structure State.RingBehind (k : Counter) (s : State) : Prop where
  rising : risingEpochs s.recorder.ring
  depth : s.agent.part = .run → s.recorder.ring.length ≤ s.tables.recorder.depth
  latest : s.agent.part = .run → ∀ x, s.recorder.ring.getLast? = some x → s.blend.epoch = x.epoch + k
  published : s.blend.pub.epoch = s.blend.epoch

theorem State.ringSound_iff {s : State} : s.RingSound ↔ s.RingBehind 0 := by
  constructor
  · exact fun h => ⟨h.rising, h.depth, fun hr x hx => by simp [h.latest hr x hx], h.published⟩
  · exact fun h => ⟨h.rising, h.depth, fun hr x hx => by simp [h.latest hr x hx], h.published⟩

/-- A trigger leaves the ring as it stands. -/
theorem State.trigger_ring (c : Cause) (s : State) : (s.trigger c).recorder.ring = s.recorder.ring := by
  rcases s.trigger_recorder c with h | ⟨-, h⟩ | ⟨kept, -, h, -⟩ | h <;> rw [h] <;> rfl

namespace State.RingBehind

variable {s t : State} {k : Counter}

/-- It is a matter of the ring with its depth, the part state and the two epoch numbers. -/
theorem of_ring (hs : s.RingBehind k) (hr : t.recorder.ring = s.recorder.ring := by simp)
    (hd : t.tables.recorder.depth = s.tables.recorder.depth := by simp) (ha : t.agent.part = s.agent.part := by simp)
    (he : t.blend.epoch = s.blend.epoch := by simp) (hp : t.blend.pub.epoch = s.blend.pub.epoch := by simp) : t.RingBehind k where
  rising := hr ▸ hs.rising
  depth h := hr ▸ hd ▸ hs.depth (ha ▸ h)
  latest h := hr ▸ he ▸ hs.latest (ha ▸ h)
  published := by rw [hp, he, hs.published]

/-- Outside RUN the ring is not held to the epoch number. -/
theorem of_outside {j : Counter} (hs : s.RingBehind k) (h : t.agent.part ≠ .run)
    (hr : t.recorder.ring = s.recorder.ring := by simp) (hp : t.blend.pub.epoch = t.blend.epoch := by simp) : t.RingBehind j :=
  ⟨hr ▸ hs.rising, fun hrun => absurd hrun h, fun hrun => absurd hrun h, hp⟩

/-- An empty ring is sound. -/
theorem of_empty (h : t.recorder.ring = []) (hp : t.blend.pub.epoch = t.blend.epoch) : t.RingBehind k :=
  ⟨by rw [h]; trivial, fun _ => by simp [h], fun _ x hx => by simp [h] at hx, hp⟩

theorem trigger (hs : s.RingBehind k) (c : Cause) : (s.trigger c).RingBehind k :=
  hs.of_ring (s.trigger_ring c)

/-- A departure from RUN keeps the ring, the epoch number and the last publication (R90, R158). -/
theorem leaveRun (hs : s.RingBehind k) {p : PartState} (hp : p ≠ .run) : (s.leaveRun p).RingBehind k := by
  obtain ⟨hagent, -, hblend, -, hrecorder⟩ := s.leaveRun_blocks p
  refine hs.of_outside (by rw [hagent]; exact hp) (by rw [hrecorder]; rfl) ?_
  rw [hblend]
  exact hs.published

/-- The snapshot of a publication brings the ring up to its epoch. -/
theorem takeSnapshot (hs : s.RingBehind 1) : s.takeSnapshot.RingBehind 0 := by
  unfold State.takeSnapshot
  split
  · rename_i hrun
    have hepoch : s.snapshot.epoch = s.blend.epoch := hs.published
    refine ⟨?_, fun _ => ringWith_length _ _ _, fun _ x hx => ?_, hs.published⟩
    · refine risingEpochs_ringWith _ hs.rising fun y hy => ?_
      rw [hepoch, hs.latest (by simpa [State.running] using hrun) y hy]
    · have hlast : x = s.snapshot := ringWith_getLast hx
      simp [hlast, hepoch]
  · rename_i hrun
    exact hs.of_outside (by simpa [State.running] using hrun) rfl hs.published

end State.RingBehind

theorem ringBehind_stands (k : Counter) : RecorderStands (State.RingBehind k) where
  view s t hv hs := by
    simp only [State.recorderView, Prod.mk.injEq] at hv
    obtain ⟨hrecorder, hset, hpart, hepoch, hpub⟩ := hv
    exact hs.of_ring (by rw [hrecorder]) (by rw [hset]) hpart hepoch hpub
  trigger c _ _ hs := hs.trigger c
  failsafe c n s _ hs := by
    have htriggered : (State.setCause c n (s.trigger .failsafeEntry)).RingBehind k := hs.of_ring (s.trigger_ring .failsafeEntry)
    exact htriggered.leaveRun nofun

/-- The computation of an epoch takes a new number, and leaves the ring one behind (R71). -/
theorem State.RingBehind.computeEpoch {s : State} (hs : s.RingBehind 0) (k : EpochKind) : (s.computeEpoch k).RingBehind 1 := by
  have hepoch := s.computeEpoch_epoch k
  refine ⟨by simpa using hs.rising, by simpa using hs.depth, fun hrun x hx => ?_, rfl⟩
  rw [hepoch, hs.latest (by simpa using hrun) x (by simpa using hx)]
  simp

/-- Whatever the order of the three reactions, the ring ends up to date (R87). -/
theorem State.RingBehind.reactToPublication {s : State} (hs : s.RingBehind 1) : s.reactToPublication.RingBehind 0 := by
  have orders (k : Counter) (t : State) (ht : t.RingBehind k) : t.orderAll.RingBehind k := (ringBehind_stands k).orderAll t ht
  have passes (k : Counter) (t : State) (ht : t.RingBehind k) : t.monitorPublication.RingBehind k :=
    (ringBehind_stands k).keptByPasses.monitorPass _ t ht
  have hdrawn : s.drawn.RingBehind 1 := (ringBehind_stands 1).of_view hs
  unfold State.reactToPublication State.unordered3 Order3.run
  cases Config.freeOrder s.draws with
  | abc => exact passes 0 _ (orders 1 _ hdrawn).takeSnapshot
  | acb => exact (passes 1 _ (orders 1 _ hdrawn)).takeSnapshot
  | bac => exact passes 0 _ (orders 0 _ hdrawn.takeSnapshot)
  | bca => exact orders 0 _ (passes 0 _ hdrawn.takeSnapshot)
  | cab => exact (orders 1 _ (passes 1 _ hdrawn)).takeSnapshot
  | cba => exact orders 0 _ (passes 1 _ hdrawn).takeSnapshot

theorem ringSound_invariant : RecorderInvariant (State.RingBehind 0) where
  toRecorderStands := ringBehind_stands 0
  epoch k _ hs := (hs.computeEpoch k).reactToPublication
  line _ _ _ _ hs := hs.of_ring
  powerOn _ _ _ := .of_empty rfl rfl
  part _ _ _ hp hs := hs.of_outside hp rfl hs.published
  enterRun _ _ _ := .of_empty rfl rfl
  leave _ _ hp hs := hs.leaveRun hp
  write _ _ _ _ hr _ hs := hs.of_outside hr rfl hs.published
  load c s hs := by
    have hring : (s.loadCount c).recorder.ring = s.recorder.ring.map (Snapshot.shift (c - s.now)) := rfl
    refine ⟨?_, fun hrun => ?_, fun hrun x hx => ?_, hs.published⟩
    · rw [hring, risingEpochs_iff, List.isChain_map]
      exact (risingEpochs_iff _).1 hs.rising
    · rw [hring, List.length_map]
      exact hs.depth hrun
    · rw [hring, List.getLast?_map] at hx
      obtain ⟨y, hy, rfl⟩ := Option.map_eq_some_iff.1 hx
      exact hs.latest hrun y hy
  markRead n _ hs := by
    cases n with
    | none => exact hs
    | some n => exact hs.of_ring rfl rfl rfl rfl rfl
  release _ _ hs := hs.of_ring rfl
  softReset _ _ _ _ _ := .of_empty rfl rfl

/-- Settles O50: the ring at no epochs behind is kept by the recorder's own operations, and so by every step. -/
theorem ringStaysConsecutive : Obligations.RingStaysConsecutive :=
  fun s t hs hstep => State.ringSound_iff.2 (ringSound_invariant.kept.step s t (State.ringSound_iff.1 hs) hstep)

end Sys2Proof.Machine

/-! What a trigger and a publication's snapshot make of the recorder, in the terms of Tables 10-1 to 10-4 (R151 to R157). -/

namespace Sys2Proof.Machine

/-- A count that stays at `top` once there. -/
theorem bump_eq_min_top (top n : Nat) : bump top n = min top (n + 1) := by
  unfold bump
  split <;> omega

/-! ## The cause mask (R152) -/

theorem causeEnabled_iff (mask : Nat) (c : Cause) : causeEnabled mask c = true ↔
    match c with
    | .monitor _ => mask % 2 = 1 | .emergencyEntry => mask / 2 % 2 = 1 | .demandLost _ => mask / 4 % 2 = 1
    | .nodeLost _ => mask / 8 % 2 = 1 | .slidePersistent _ => mask / 16 % 2 = 1 | .incidentLine => mask / 32 % 2 = 1
    | .management => True | .failsafeEntry => True := by
  cases c <;> simp [causeEnabled, Cause.mask]

theorem State.takesTrigger_iff {s : State} {c : Cause} :
    s.takesTrigger c = true ↔ s.agent.part = .run ∧ causeEnabled s.tables.recorder.causeMask c = true := by
  simp [State.takesTrigger, State.running]

/-! ## The store policy (R154) -/

/-- The keep time of a closed incident has run out, or its close stamp lies ahead (Table 10-3). -/
def Incident.keepTimeOver (set : RecorderSet) (now : Count) (x : Incident) : Bool :=
  match x.closeStamp with
  | none => false
  | some c => decide (elapsed c now < 0 ∨ (set.keepTime * 1000000 : Int) < elapsed c now)

/-- What the store policy does not free: the OPEN incident, and an unread one that the policy keeps (Table 10-3). -/
theorem not_eligible_eq (set : RecorderSet) (now : Count) : (fun x => !eligible set now x) = fun x : Incident =>
    decide (x.state = .opened ∨ (x.state = .closedUnread ∧ set.policy ≠ .overwriteOldest ∧
      (set.policy = .keepTimed → x.keepTimeOver set now = false))) := by
  funext x
  unfold eligible Incident.keepTimeOver
  cases x.state with
  | opened => simp
  | closedRead => simp
  | closedUnread =>
    cases set.policy with
    | overwriteOldest => simp
    | keepUnread => simp
    | keepTimed => cases x.closeStamp <;> simp [← decide_not]

/-! ## The three ways of a trigger that is taken -/

/-- The OPEN incident after a retrigger, field by field (R157). -/
theorem retriggered_eq (set : RecorderSet) (c : Cause) (now : Count) (edge : Option Count) (free : Nat) (x : Incident) :
    retriggered set c now edge free x =
      let known := x.causes.any fun e => e.cause = c
      let wanted := if set.extension = true ∧ c ≠ .failsafeEntry then
          min set.post (set.maximum - x.snaps.length) - x.remaining
        else 0
      { x with
        causes := if known then
            x.causes.map fun e => if e.cause = c then { e with count := min 255 (e.count + 1) } else e
          else if x.causes.length < 4 then x.causes ++ [{ cause := c, stamp := now, count := 1 }]
          else x.causes
        moreCauses := x.moreCauses || (!known && decide (4 ≤ x.causes.length))
        lineStamp := if c = .incidentLine ∧ x.lineStamp = none then edge else x.lineStamp
        truncated := x.truncated || decide (free < wanted)
        remaining := x.remaining + min wanted free
        reserved := x.reserved + min wanted free } := by
  simp only [retriggered, addCause, causeOverflows, wantedAddition, bump_eq_min, Bool.and_eq_true, decide_eq_true_eq]

/-- A trigger extends the OPEN incident (R157). -/
theorem State.trigger_extends {s : State} {c : Cause} (h : s.takesTrigger c = true)
    (hopen : ∃ x ∈ s.recorder.incidents, x.state = .opened) :
    s.trigger c = s.setRecorder (s.recorder.onOpen
      (retriggered s.tables.recorder c s.now s.recorder.edge (freeSlots s.recorder.incidents))) := by
  cases hfound : s.recorder.openIncident with
  | some x => exact State.trigger_added h hfound
  | none =>
    obtain ⟨x, hx, hopened⟩ := hopen
    exact absurd hopened (RecorderBlock.openIncident_none_iff.1 hfound x hx)

/-- An opening in what is left by freeing as few as needed, under the first number that no incident holds afterwards (R153 to
R155). -/
theorem State.trigger_opens {s : State} {c : Cause} {k : Nat} (h : s.takesTrigger c = true)
    (hnone : ∀ x ∈ s.recorder.incidents, x.state ≠ .opened) (hk : k ≤ s.recorder.incidents.length)
    (hroom : hasSpace (s.slotsAsked c) (freedFirst s.tables.recorder s.now k s.recorder.incidents) = true)
    (hfirst : ∀ j < k, ¬ hasSpace (s.slotsAsked c) (freedFirst s.tables.recorder s.now j s.recorder.incidents) = true)
    (hall : k = 0 ∨
      hasSpace (s.slotsAsked c) (s.recorder.incidents.filter fun x => !eligible s.tables.recorder s.now x) = true) :
    let kept := freedFirst s.tables.recorder s.now k s.recorder.incidents ++ [openedIncident s c]
    ∃ j, s.trigger c = s.setRecorder { s.recorder with
        incidents := kept, nextNumber := numberAfter^[j + 1] s.recorder.nextNumber } ∧
      (∀ x ∈ kept, x.number ≠ numberAfter^[j + 1] s.recorder.nextNumber) ∧
      ∀ i < j, ∃ x ∈ kept, x.number = numberAfter^[i + 1] s.recorder.nextNumber := by
  intro kept
  have hfew : (kept.map Incident.number).length < 17 := by
    obtain ⟨-, hentries⟩ := hasSpace_iff.1 hroom
    simpa [kept] using Nat.succ_lt_succ hentries
  obtain ⟨j, hnext, hunused, htried⟩ := nextFree_first hfew (by decide) s.recorder.nextNumber
  have hopened := State.trigger_opened h (RecorderBlock.openIncident_none hnone) (makeRoom_freed hk hroom hfirst hall)
  rw [hnext] at hunused
  refine ⟨j, ?_, fun x hx hnumber => hunused (List.mem_map.2 ⟨x, hx, hnumber⟩), fun i hi => List.mem_map.1 (htried i hi)⟩
  rw [hopened, ← hnext]
  rfl

/-- A trigger that finds no room is lost (R154). -/
theorem State.trigger_lost {s : State} {c : Cause} (h : s.takesTrigger c = true)
    (hnone : ∀ x ∈ s.recorder.incidents, x.state ≠ .opened) (hfull : ¬ hasSpace (s.slotsAsked c) s.recorder.incidents = true)
    (hall : ¬ hasSpace (s.slotsAsked c) (s.recorder.incidents.filter fun x => !eligible s.tables.recorder s.now x) = true) :
    s.trigger c = (s.raise .recordLost).setRecorder
      { (s.raise .recordLost).recorder with lost := min 65535 (s.recorder.lost + 1) } := by
  rw [State.trigger_refused h (RecorderBlock.openIncident_none hnone) (makeRoom_none hfull hall), refuseTrigger, bump_eq_min_top]
  simp

/-! ## A snapshot (R151, R156) -/

theorem State.takeSnapshot_outside {s : State} (h : s.agent.part ≠ .run) : s.takeSnapshot = s :=
  if_neg (by simpa [State.running] using h)

theorem State.takeSnapshot_run {s : State} (h : s.agent.part = .run) :
    s.takeSnapshot = s.setRecorder { s.recorder with
      ring := (s.recorder.ring ++ [s.snapshot]).drop (s.recorder.ring.length + 1 - s.tables.recorder.depth)
      incidents := s.recorder.incidents.map fun x =>
        if x.state ≠ .opened then x
        else if x.remaining ≤ 1 then
          { x with snaps := x.snaps ++ [s.snapshot], remaining := x.remaining - 1, state := .closedUnread
                   closeStamp := some s.now, reserved := x.snaps.length + 1 }
        else { x with snaps := x.snaps ++ [s.snapshot], remaining := x.remaining - 1 } } := by
  have hring : ringWith s.tables.recorder.depth s.recorder.ring s.snapshot =
      (s.recorder.ring ++ [s.snapshot]).drop (s.recorder.ring.length + 1 - s.tables.recorder.depth) := by
    rw [ringWith, List.length_append, List.length_singleton]
  unfold State.takeSnapshot
  rw [if_pos (by simp [State.running, h]), hring]
  simp only [RecorderBlock.onOpen, appended_eq, ite_not]

/-- Settles O45: a trigger by whether it is taken, whether an incident is OPEN and whether there is room; a snapshot by the part
state. -/
theorem incidentsOpenExtendAndClose : Obligations.IncidentsOpenExtendAndClose := by
  refine ⟨fun c s => ?_, fun s => ⟨State.takeSnapshot_outside, State.takeSnapshot_run⟩⟩
  have hmask := causeEnabled_iff s.tables.recorder.causeMask c
  refine ⟨fun hnot => State.trigger_ignored ?_, fun hrun henabled hopen => ?_, fun hrun henabled hnone => ⟨?_, ?_⟩⟩
  · rw [Bool.eq_false_iff, ne_eq, State.takesTrigger_iff, not_and_or]
    exact hnot.imp_right (mt hmask.1)
  · have htakes := State.takesTrigger_iff.2 ⟨hrun, hmask.2 henabled⟩
    rw [State.trigger_extends htakes hopen]
    simp only [RecorderBlock.onOpen, retriggered_eq]
    rfl
  · have htakes := State.takesTrigger_iff.2 ⟨hrun, hmask.2 henabled⟩
    intro k hall hk hroom hfirst
    have hopens := State.trigger_opens (k := k) htakes hnone hk
    simp only [freedFirst, not_eligible_eq, hasSpace_iff] at hopens
    exact hopens hroom hfirst hall
  · have htakes := State.takesTrigger_iff.2 ⟨hrun, hmask.2 henabled⟩
    have hlost := State.trigger_lost htakes hnone
    simp only [not_eligible_eq, hasSpace_iff] at hlost
    exact hlost

end Sys2Proof.Machine

/-! The services of the recorder's requests (R159 to R163): what each check answers, and the data byte for byte. -/

namespace Sys2Proof.Machine

/-! ## Requests about incidents -/

/-- The argument bytes of a request that has just so many, as one number. -/
theorem Request.number_args {r : Request} {n : Nat} (h : r.args.length = n) : r.number 0 n = ofBytes r.args := by
  rw [Request.number, List.drop_zero, List.take_of_length_le (Nat.le_of_eq h)]

/-- What waits for the acceptance of a response takes place when there is room for it (R18, R166). -/
theorem Answer.send_accepted {a : Answer} {r : Request} (h : (a.state.port r.port).originated.length < 12) :
    a.send r = (a.state.respond r a.status a.data).markRead a.reads :=
  if_pos (decide_eq_true h)

theorem Answer.send_dropped {a : Answer} {r : Request} (h : ¬ (a.state.port r.port).originated.length < 12) :
    a.send r = a.state.respond r a.status a.data :=
  if_neg (by simpa [State.hasRoom] using h)

/-- A served request whose readout is complete when its response is accepted (R161, R162). -/
theorem serve_readout {mine : Request → Bool} {act : Request → State → Answer} {s : State} {r : Request} {rest : List Request}
    {data : List Byte} {number : Nat} {last : Prop} [Decidable last] (hq : s.agent.queue = r :: rest) (hm : mine r = true)
    (ha : act r s = ⟨s, .ok, data, if last then some number else none⟩) :
    serve mine act s =
      if last ∧ (s.port r.port).originated.length < 12 then
        State.popRequest ((s.respond r .ok data).setRecorder { s.recorder with
          incidents := s.recorder.incidents.map fun x =>
            if x.number = number ∧ x.state = .closedUnread then { x with state := .closedRead } else x })
      else s.replied r .ok data := by
  rw [serve_head hq hm, ha]
  by_cases hlast : last
  · by_cases hroom : (s.port r.port).originated.length < 12
    · have hrecorder : (s.respond r .ok data).recorder = s.recorder := by simp
      rw [if_pos (And.intro hlast hroom), if_pos hlast, Answer.send_accepted hroom, State.markRead_some, hrecorder]
    · rw [if_neg (mt And.right hroom), Answer.send_dropped hroom]
      rfl
  · rw [if_neg (mt And.left hlast), if_neg hlast, Answer.send_plain _ _ rfl]
    rfl

/-! ## TRIGGER (R163) -/

/-- The answer to a MANAGEMENT trigger in RUN: ADDED to the OPEN incident, OPENED or REFUSED, with the incident's number. -/
theorem State.triggerResult_management {s : State} (h : s.agent.part = .run) : (s.triggerResult .management).bytes =
    match s.recorder.openIncident with
    | some x => 1 :: toBytes 2 x.number
    | none =>
      match makeRoom s.tables.recorder s.time.count (s.recorder.ring.length + s.tables.recorder.post) s.recorder.incidents with
      | some _ => 0 :: toBytes 2 s.recorder.nextNumber
      | none => [2, 0, 0] := by
  have htakes : s.takesTrigger .management = true := State.takesTrigger_iff.2 ⟨h, rfl⟩
  have hasked : s.slotsAsked .management = s.recorder.ring.length + s.tables.recorder.post := rfl
  rw [State.triggerResult, if_pos htakes, hasked]
  cases s.recorder.openIncident with
  | some x => rfl
  | none =>
    dsimp only [State.now]
    cases makeRoom s.tables.recorder s.time.count (s.recorder.ring.length + s.tables.recorder.post) s.recorder.incidents <;> rfl

section
variable {s : State} {r : Request} {rest : List Request}

theorem exec_trigger_arguments (h : s.asks r rest 0x0A) (hl : r.args ≠ []) :
    exec .trigger s = .next (s.replied r .badRequest []) :=
  congrArg Host.Outcome.next (serve_refuse h.1 (State.asks_ofKind h rfl) (if_pos (by simpa using hl)))

theorem exec_trigger_locked (h : s.asks r rest 0x0A) (hl : r.args = []) (hr : s.agent.part ≠ .run) :
    exec .trigger s = .next (s.replied r .locked []) :=
  congrArg Host.Outcome.next
    (serve_refuse h.1 (State.asks_ofKind h rfl) (by simp [answerTrigger, hl, State.running, hr]))

theorem exec_trigger_run (h : s.asks r rest 0x0A) (hl : r.args = []) (hr : s.agent.part = .run) :
    exec .trigger s = .next ((s.trigger .management).replied r .ok (s.triggerResult .management).bytes) :=
  congrArg Host.Outcome.next
    (serve_answer h.1 (State.asks_ofKind h rfl) (by simp [answerTrigger, hl, State.running, hr]))

/-! ## RECORD_RELEASE (R163) -/

theorem exec_recordRelease_length (h : s.asks r rest 0x13) (hl : r.args.length ≠ 2) :
    exec .recordRelease s = .next (s.replied r .badRequest []) :=
  congrArg Host.Outcome.next (serve_refuse h.1 (State.asks_ofKind h rfl) (if_pos hl))

/-- A release by the incident that carries the number. -/
theorem exec_recordRelease (h : s.asks r rest 0x13) (hl : r.args.length = 2) :
    exec .recordRelease s = .next (
      match s.recorder.incidents.find? fun x => x.number = ofBytes r.args with
      | none => s.replied r .badIndex []
      | some x =>
        if x.state = .opened then s.replied r .notClosed []
        else (s.release x.number).replied r .ok [x.state.code]) := by
  have hnumber := Request.number_args hl
  have hmine := State.asks_ofKind (k' := reqRecordRelease) h rfl
  refine congrArg Host.Outcome.next ?_
  cases hfound : s.recorder.incidents.find? fun x => x.number = ofBytes r.args with
  | none => exact serve_refuse h.1 hmine (by simp [answerRecordRelease, hl, hnumber, RecorderBlock.incident, hfound])
  | some x =>
    by_cases hopen : x.state = .opened
    · refine Eq.trans (serve_refuse h.1 hmine ?_) (if_pos hopen).symm
      simp [answerRecordRelease, hl, hnumber, RecorderBlock.incident, hfound, hopen]
    · refine Eq.trans (serve_answer h.1 hmine ?_) (if_neg hopen).symm
      simp [answerRecordRelease, hl, hnumber, RecorderBlock.incident, hfound, hopen]

/-- The code of a closed incident's state. -/
theorem IncidentState.code_closed {x : IncidentState} (h : x ≠ .opened) : x.code = if x = .closedUnread then 1 else 2 := by
  cases x with
  | opened => exact absurd rfl h
  | closedUnread => rfl
  | closedRead => rfl

end

/-- Settles O44: each service by its checks. -/
theorem triggerAndRelease : Obligations.TriggerAndRelease := by
  refine fun s r rest => ⟨fun h => ⟨exec_trigger_arguments h, exec_trigger_locked h, fun hl hr => ?_⟩,
    fun h => ⟨exec_recordRelease_length h, fun hl => ?_⟩⟩
  · have hserved := exec_trigger_run h hl hr
    rw [State.triggerResult_management hr] at hserved
    exact hserved
  · rw [exec_recordRelease h hl]
    cases s.recorder.incidents.find? fun x => x.number = ofBytes r.args with
    | none => rfl
    | some x =>
      refine congrArg Host.Outcome.next (ite_congr rfl (fun _ => rfl) fun hclosed => ?_)
      rw [IncidentState.code_closed hclosed]
      rfl

end Sys2Proof.Machine

/-! RECORD_LIST and RECORD_HEADER: the checks, and the data field by field (R160, R161). -/

namespace Sys2Proof.Machine

/-! ## RECORD_LIST (R160) -/

theorem IncidentState.code_eq (x : IncidentState) :
    x.code = (match x with | .opened => 0 | .closedUnread => 1 | .closedRead => 2 : Byte) := by
  cases x <;> rfl

/-- The data of RECORD_LIST: lost count, free slots, next number, and each incident with its state (R160). -/
theorem RecorderBlock.listData_eq (b : RecorderBlock) : b.listData =
    toBytes 2 b.lost ++
      toBytes 2 (1024 - (b.incidents.map fun x => if x.state = .opened then x.reserved else x.snaps.length).sum) ++
      toBytes 2 b.nextNumber ++ [BitVec.ofNat 8 b.incidents.length] ++
      b.incidents.flatMap fun x =>
        toBytes 2 x.number ++ [(match x.state with | .opened => 0 | .closedUnread => 1 | .closedRead => 2 : Byte)] := by
  unfold RecorderBlock.listData
  simp only [IncidentState.code_eq]
  rfl

theorem exec_recordList {s : State} {r : Request} {rest : List Request} (h : s.asks r rest 0x10) :
    exec .recordList s = .next (if r.args = [] then s.replied r .ok s.recorder.listData else s.replied r .badRequest []) := by
  refine congrArg Host.Outcome.next ?_
  split
  · exact serve_answer h.1 (State.asks_ofKind h rfl) (if_neg (by simp [*]))
  · exact serve_refuse h.1 (State.asks_ofKind h rfl) (if_pos (by simpa using ‹_›))

/-! ## RECORD_HEADER (R161) -/

/-- A cause entry with its code and index of Table 10-2. -/
theorem causeBytes_some (openStamp : Count) (e : CauseEntry) : causeBytes openStamp (some e) =
    (match e.cause with
      | .monitor m => [1, BitVec.ofNat 8 m.val]
      | .emergencyEntry => [2, 0]
      | .demandLost d => [3, BitVec.ofNat 8 d.val]
      | .nodeLost n => [4, BitVec.ofNat 8 n.val]
      | .slidePersistent i => [5, BitVec.ofNat 8 i.val]
      | .incidentLine => [6, 0]
      | .management => [7, 0]
      | .failsafeEntry => [8, 0]) ++ [BitVec.ofNat 8 e.count] ++ toBytes 3 (e.stamp - openStamp).toNat := by
  rw [causeBytes]
  cases e.cause <;> rfl

theorem causeBytes_length (openStamp : Count) (e : Option CauseEntry) : (causeBytes openStamp e).length = 6 := by
  cases e <;> simp [causeBytes, offsetBytes]

/-- The flags: CUT_SHORT 1, TRUNCATED 2, MORE_CAUSES 4, a line stamp 8 (R161). -/
theorem Incident.flagBits_eq (x : Incident) : x.flagBits =
    (if x.cutShort then 1 else 0) + (if x.truncated then 2 else 0) + (if x.moreCauses then 4 else 0) +
      (if x.lineStamp.isSome then 8 else 0) := by
  have weigh (w : Nat) (b : Bool) : w * b.toNat = if b then w else 0 := by cases b <;> simp
  rw [Incident.flagBits, ← weigh 1, ← weigh 2, ← weigh 4, ← weigh 8, Nat.one_mul]

theorem markBytes_length (m : Option MarkCopy) : (markBytes m).length = 15 := by
  cases m <;> simp [markBytes, stampBytes]

theorem optionalOffset_eq (n : Nat) (openStamp : Count) (c : Option Count) :
    optionalOffset n openStamp c = toBytes n (match c with | none => 0 | some c => (c - openStamp).toNat) := by
  cases c <;> rfl

theorem Incident.header_length (x : Incident) : x.header.length = 56 := by
  simp [Incident.header, stampBytes, optionalOffset_eq, causeBytes_length, markBytes_length]

section
variable {s : State} {r : Request} {rest : List Request}

theorem exec_recordHeader_length (h : s.asks r rest 0x11) (hl : r.args.length ≠ 2) :
    exec .recordHeader s = .next (s.replied r .badRequest []) :=
  congrArg Host.Outcome.next (serve_refuse h.1 (State.asks_ofKind h rfl) (if_pos hl))

theorem exec_recordHeader_unknown (h : s.asks r rest 0x11) (hl : r.args.length = 2)
    (hfound : s.recorder.incidents.find? (fun x => x.number = ofBytes r.args) = none) :
    exec .recordHeader s = .next (s.replied r .badIndex []) := by
  refine congrArg Host.Outcome.next (serve_refuse h.1 (State.asks_ofKind h rfl) ?_)
  simp [answerRecordHeader, hl, Request.number_args hl, RecorderBlock.incident, hfound]

/-- An accepted header completes the readout of an incident without snapshots. -/
theorem exec_recordHeader (h : s.asks r rest 0x11) (hl : r.args.length = 2) {x : Incident}
    (hfound : s.recorder.incidents.find? (fun x => x.number = ofBytes r.args) = some x) :
    exec .recordHeader s = .next (
      if x.snaps = [] ∧ (s.port r.port).originated.length < 12 then
        State.popRequest ((s.respond r .ok x.header).setRecorder { s.recorder with
          incidents := s.recorder.incidents.map fun y =>
            if y.number = x.number ∧ y.state = .closedUnread then { y with state := .closedRead } else y })
      else s.replied r .ok x.header) := by
  refine congrArg Host.Outcome.next (serve_readout h.1 (State.asks_ofKind h rfl) ?_)
  simp [answerRecordHeader, hl, Request.number_args hl, RecorderBlock.incident, hfound]

end

/-- Settles O46: the list by its arguments; the header by the incident that carries the number, its bytes part by part. -/
theorem recordListAndHeader : Obligations.RecordListAndHeader := by
  refine fun s r rest => ⟨fun h => ?_, fun h => ⟨exec_recordHeader_length h, fun hl hnone => ?_, fun x hl hfound => ?_⟩⟩
  · have hserved := exec_recordList h
    rw [RecorderBlock.listData_eq] at hserved
    exact hserved
  · exact exec_recordHeader_unknown h hl (List.find?_eq_none.2 fun x hx => by simpa using hnone x hx)
  · intro cause header
    have hcause (k : Nat) : cause k = causeBytes x.openStamp x.causes[k]? := by
      dsimp only [cause]
      cases x.causes[k]? with
      | none => rfl
      | some e => exact (causeBytes_some x.openStamp e).symm
    have hheader : header = x.header := by
      dsimp only [header]
      simp only [hcause]
      rw [Incident.header, IncidentState.code_eq, Incident.flagBits_eq, optionalOffset_eq, optionalOffset_eq]
      cases x.mark <;> rfl
    rw [hheader]
    exact ⟨x.header_length, exec_recordHeader h hl hfound⟩

end Sys2Proof.Machine

/-! RECORD_READ: the checks, the three parts of a snapshot byte for byte, and the end of a readout (R162). -/

namespace Sys2Proof.Machine

/-! ## The codes of a snapshot's records -/

theorem NodeState.code_eq (x : NodeState) : x.code =
    (match x with | .absent => 0 | .joining => 1 | .active => 2 | .degraded => 3 | .lost => 4 | .cutOut => 5 : Byte) := by
  cases x <;> rfl

theorem Relief.code_eq (x : Relief) : x.code = (match x with | .calm => 0 | .hold => 1 | .vent => 2 : Byte) := by
  cases x <;> rfl

theorem Validity.code_eq (x : Validity) :
    x.code = (match x with | .unknown => 0 | .valid => 1 | .stale => 2 | .faulted => 3 : Byte) := by
  cases x <;> rfl

theorem SlideState.code_eq (x : SlideState) :
    x.code = (match x with | .normal => 0 | .relief => 1 | .hold => 2 | .reapply => 3 : Byte) := by
  cases x <;> rfl

theorem EpochKind.code_eq (x : EpochKind) : x.code = (match x with | .regular => 0 | .extra => 1 : Byte) := by
  cases x <;> rfl

theorem Mode.code_eq (x : Mode) :
    x.code = (match x with | .release => 0 | .dynamicOnly => 1 | .blended => 2 | .airOnly => 3 | .emergency => 4 : Byte) := by
  cases x <;> rfl

theorem DemandOrigin.code_eq (x : DemandOrigin) :
    x.code = (match x with | .source0 => 0 | .source1 => 1 | .penalty => 2 : Byte) := by
  cases x <;> rfl

theorem RefState.code_eq (x : RefState) : x.code = (match x with | .invalid => 0 | .valid => 1 | .held => 2 : Byte) := by
  cases x <;> rfl

/-- The active entries as the sum of their weights 1 to 128 (R162). -/
theorem activeBits_eq (a : Vector Bool 8) :
    activeBits a = (monitorEntries.map fun m => if a[m] then 2 ^ m.val else 0).sum := by
  have weigh (w : Nat) (b : Bool) : w * b.toNat = if b then w else 0 := by cases b <;> simp
  simp only [activeBits, weigh, monitorEntries, List.map_cons, List.map_nil, List.sum_cons, List.sum_nil]
  rw [← Nat.one_mul a[0].toNat, weigh]
  simp only [Nat.add_assoc, Nat.add_zero]
  rfl

/-! ## The three parts -/

theorem TruckSnap.bytes_length (t : TruckSnap) : t.bytes.length = 8 := by
  simp [TruckSnap.bytes, optional2]

theorem AxleSnap.bytes_length (a : AxleSnap) : a.bytes.length = 15 := by
  simp [AxleSnap.bytes, optional2]

theorem Snapshot.part0_length (draw : Nat) (x : Snapshot) : (x.part0 draw).length = 53 := by
  simp [Snapshot.part0, stampBytes, toSigned2, total2, perTruck, TruckSnap.bytes_length]

theorem Snapshot.part1_length (x : Snapshot) : x.part1.length = 49 := by
  simp [Snapshot.part1, AxleSnap.bytes_length]

theorem Snapshot.part2_length (x : Snapshot) : x.part2.length = 49 := by
  simp [Snapshot.part2, AxleSnap.bytes_length]

/-! ## The service -/

section
variable {s : State} {r : Request} {rest : List Request}

theorem exec_recordRead_length (h : s.asks r rest 0x12) (hl : r.args.length ≠ 4) :
    exec .recordRead s = .next (s.replied r .badRequest []) :=
  congrArg Host.Outcome.next (serve_refuse h.1 (State.asks_ofKind h rfl) (if_pos hl))

variable {hi lo index part : Byte} (ha : r.args = [hi, lo, index, part])
include ha

/-- Without an incident of the number the request is refused. -/
theorem answerRecordRead_unknown (hfound : s.recorder.incidents.find? (fun x => x.number = ofBytes [hi, lo]) = none) :
    answerRecordRead r s = refuse s .badIndex := by
  simp [answerRecordRead, Request.number, RecorderBlock.incident, ha, hfound]

variable {x : Incident} (hfound : s.recorder.incidents.find? (fun x => x.number = ofBytes [hi, lo]) = some x)
include hfound

theorem answerRecordRead_opened (hopen : x.state = .opened) : answerRecordRead r s = refuse s .notClosed := by
  simp [answerRecordRead, Request.number, RecorderBlock.incident, ha, hfound, hopen]

variable (hclosed : x.state ≠ .opened)
include hclosed

theorem answerRecordRead_beyond (hindex : x.snaps.length ≤ index.toNat) : answerRecordRead r s = refuse s .badIndex := by
  have hnone : x.snaps[index.toNat]? = none := List.getElem?_eq_none hindex
  simp [answerRecordRead, Request.number, Request.arg, byteAt, RecorderBlock.incident, ha, hfound, hclosed, hnone]

/-- A snapshot of a closed incident is answered by its part. -/
theorem answerRecordRead_snapshot {y : Snapshot} (hy : x.snaps[index.toNat]? = some y) : answerRecordRead r s =
    (s.snapshotPart x.number (index.toNat + 1 == x.snaps.length) y part.toNat).getD (refuse s .badValue) := by
  simp [answerRecordRead, Request.number, Request.arg, byteAt, RecorderBlock.incident, ha, hfound, hclosed, hy]

end

theorem State.snapshotPart_above {s : State} {n part : Nat} {last : Bool} {y : Snapshot} (h : 2 < part) :
    s.snapshotPart n last y part = none := by
  match part, h with
  | _ + 3, _ => rfl

/-- Settles O47: the checks in order, then the snapshot's parts, of which part 2 of the last one completes the readout. -/
theorem recordReadReturnsSnapshots : Obligations.RecordReadReturnsSnapshots := by
  intro s r rest h
  have hmine := State.asks_ofKind (k' := reqRecordRead) h rfl
  intro bit nodeCode truck axle part0 part1 part2
  have htruck (t : TruckSnap) : truck t = t.bytes := by
    rw [TruckSnap.bytes, NodeState.code_eq, Relief.code_eq]
    rfl
  have hpart0 (y : Snapshot) : part0 y (Config.wideTotal s.draws y.airAchieved) = y.part0 s.draws := by
    dsimp only [part0]
    simp only [htruck]
    rw [Snapshot.part0, perTruck, ← List.append_assoc, activeBits_eq, EpochKind.code_eq, Mode.code_eq, DemandOrigin.code_eq,
      RefState.code_eq]
    rfl
  have haxle (a : AxleSnap) : axle a = a.bytes := by
    rw [AxleSnap.bytes, NodeState.code_eq, Validity.code_eq, SlideState.code_eq]
    rfl
  have hpart1 (y : Snapshot) : part1 y = y.part1 := rfl
  have hpart2 (y : Snapshot) : part2 y = y.part2 := rfl
  refine ⟨exec_recordRead_length h, fun hi lo index part ha => ⟨fun hfound => ?_, fun x hfound => ⟨fun hopen => ?_,
    fun hclosed hindex => ?_, fun y hclosed hy => ⟨fun hpart => ?_, fun hpart => ?_, fun hpart => ?_, fun hpart => ?_⟩⟩⟩⟩
  · exact congrArg Host.Outcome.next (serve_refuse h.1 hmine (answerRecordRead_unknown ha hfound))
  · exact congrArg Host.Outcome.next (serve_refuse h.1 hmine (answerRecordRead_opened ha hfound hopen))
  · exact congrArg Host.Outcome.next (serve_refuse h.1 hmine (answerRecordRead_beyond ha hfound hclosed hindex))
  all_goals have hanswer := answerRecordRead_snapshot ha hfound hclosed hy
  · rw [State.snapshotPart_above hpart] at hanswer
    exact congrArg Host.Outcome.next (serve_refuse h.1 hmine hanswer)
  · subst hpart
    refine ⟨Config.wideTotal s.draws y.airAchieved, ?_⟩
    rw [hpart0]
    exact ⟨congrArg Host.Outcome.next (serve_answer h.1 hmine hanswer), y.part0_length _⟩
  · subst hpart
    rw [hpart1]
    exact ⟨congrArg Host.Outcome.next (serve_answer h.1 hmine hanswer), y.part1_length⟩
  · subst hpart
    rw [hpart2]
    refine ⟨y.part2_length, congrArg Host.Outcome.next (serve_readout h.1 hmine ?_)⟩
    simpa [State.snapshotPart] using hanswer

end Sys2Proof.Machine

/-! Table entries read and written (R169, Table 11-3): what names an entry, what its data bytes carry, and what an accepted write
leaves in the tables. -/

namespace Sys2Proof.Machine

/-! ## Names of entries -/

theorem indexIn_eq_some {α : Type} {n i : Nat} {f : Fin n → α} {x : α} : indexIn n i f = some x ↔ ∃ h, f ⟨i, h⟩ = x := by
  unfold indexIn
  split <;> simp [*]

theorem indexIn_val {α : Type} {n : Nat} (f : Fin n → α) (i : Fin n) : indexIn n i.val f = some (f i) :=
  indexIn_eq_some.2 ⟨i.isLt, rfl⟩

theorem tableRef_name (e : TableRef) : tableRef e.name.1 e.name.2 = some e := by
  cases e with
  | classify i | axle i | node i | truck i | monitor i => exact indexIn_val _ i
  | curvePoint k => exact (if_neg k.isLt.ne).trans (indexIn_val _ k)
  | curveCount | blend | ramp | speed | slide | recorder | time | link => rfl

theorem name_of_tableRef {a b : Nat} {e : TableRef} (h : tableRef a b = some e) : e.name = (a, b) := by
  unfold tableRef at h
  split at h
  case h_4 =>
    split at h
    · obtain rfl := Option.some.inj h
      subst b
      rfl
    · obtain ⟨hb, rfl⟩ := indexIn_eq_some.1 h
      rfl
  case h_14 => exact nomatch h
  case h_5 | h_7 | h_8 | h_9 | h_11 | h_12 | h_13 =>
    obtain ⟨hb, rfl⟩ := indexIn_eq_some.1 h
    obtain rfl : b = 0 := by omega
    rfl
  all_goals
    obtain ⟨hb, rfl⟩ := indexIn_eq_some.1 h
    rfl

/-- The entry that a table id and an index name is the one that has them as its name. -/
theorem tableRef_eq_some {a b : Nat} {e : TableRef} : tableRef a b = some e ↔ e.name = (a, b) :=
  ⟨name_of_tableRef, fun h => by simpa [h] using tableRef_name e⟩

theorem tableRef_eq_none {a b : Nat} (h : ∀ e : TableRef, e.name ≠ (a, b)) : tableRef a b = none :=
  Option.eq_none_iff_forall_not_mem.2 fun e he => h e (tableRef_eq_some.1 he)

theorem TableRef.ranges_eq (e : TableRef) : e.ranges = fieldsOf e := by cases e <;> rfl

theorem TableRef.size_eq (e : TableRef) : e.size = entryLength e := by
  rw [TableRef.size, e.ranges_eq]
  rfl

/-! ## Data bytes and field values (R6) -/

theorem ofBytes_append_one (bs : List Byte) (b : Byte) : ofBytes (bs ++ [b]) = ofBytes bs * 256 + b.toNat := by
  simp [ofBytes]

theorem toBytes_add (n : Nat) (v : Nat) (b : Byte) : toBytes (n + 1) (v * 256 + b.toNat) = toBytes n v ++ [b] := by
  induction n with
  | zero =>
    refine congrArg (· :: []) (BitVec.eq_of_toNat_eq ?_)
    simpa using b.isLt
  | succ n ih =>
    rw [toBytes, ih, toBytes, List.cons_append]
    congr 2
    rw [pow_succ', ← Nat.div_div_eq_div_mul, show (v * 256 + b.toNat) / 256 = v by omega]

/-- Bytes read as a number and laid out again are the same bytes. -/
theorem toBytes_ofBytes (bs : List Byte) : toBytes bs.length (ofBytes bs) = bs := by
  induction bs using List.reverseRecOn with
  | nil => rfl
  | append_singleton bs b ih => rw [ofBytes_append_one, List.length_append, List.length_singleton, toBytes_add, ih]

/-- Data read as field values and laid out again are the same data. -/
theorem writeFields_readFields (fs : List Field) (data : List Byte) (h : data.length = (fs.map Field.width).sum) :
    writeFields fs (readFields fs data) = data := by
  induction fs generalizing data with
  | nil => exact (List.length_eq_zero_iff.1 h).symm
  | cons f fs ih =>
    rw [List.map_cons, List.sum_cons] at h
    have hfirst : (data.take f.width).length = f.width := by rw [List.length_take]; omega
    have hvalue := toBytes_ofBytes (data.take f.width)
    rw [hfirst] at hvalue
    rw [readFields, writeFields, hvalue, ih _ (by rw [List.length_drop]; omega), List.take_append_drop]

theorem readFields_length (fs : List Field) (data : List Byte) : (readFields fs data).length = fs.length := by
  induction fs generalizing data with
  | nil => rfl
  | cons f fs ih => simp [readFields, ih]

theorem inRanges_length {fs : List Field} {vs : List Nat} (h : inRanges fs vs = true) : vs.length = fs.length := by
  induction fs generalizing vs with
  | nil => cases vs with
    | nil => rfl
    | cons => exact nomatch h
  | cons f fs ih => cases vs with
    | nil => exact nomatch h
    | cons v vs =>
      rw [inRanges, Bool.and_eq_true] at h
      simp [ih h.2]

/-- As many values as fields lie in their ranges when each does. -/
theorem inRanges_iff {fs : List Field} {vs : List Nat} (hl : vs.length = fs.length) :
    inRanges fs vs = true ↔ ∀ (k : Nat) (f : Field), fs[k]? = some f → f.lo ≤ fieldAt vs k ∧ fieldAt vs k ≤ f.hi := by
  refine ⟨fun h k f hf => ⟨le_fieldAt_of_inRanges h hf, fieldAt_le_of_inRanges h hf⟩, fun h => ?_⟩
  induction fs generalizing vs with
  | nil => rw [List.length_eq_zero_iff.1 hl]; rfl
  | cons f fs ih => cases vs with
    | nil => exact nomatch hl
    | cons v vs =>
      have hrest := ih (vs := vs) (by simpa using hl) fun k g hg => h (k + 1) g hg
      have hfirst := h 0 f rfl
      simp only [inRanges, Bool.and_eq_true, decide_eq_true_eq]
      exact ⟨hfirst, hrest⟩

/-- A list is its values in order. -/
theorem range_map_fieldAt {vs : List Nat} {n : Nat} (h : vs.length = n) : (List.range n).map (fieldAt vs) = vs := by
  subst h
  refine List.ext_getElem (by simp) fun k h1 h2 => ?_
  simp [fieldAt, h2]

end Sys2Proof.Machine

/-! The codes of an entry's enumerated fields, read back, and the roles and monitor sources that a write may name (R10, R140,
Table 11-3). -/

namespace Sys2Proof.Machine

/-! ## Codes read back -/

section
variable {vs : List Nat} {k n : Nat}

theorem yes_eq_decide (vs : List Nat) (k : Nat) : yes vs k = decide (fieldAt vs k = 1) := rfl

theorem yes_toNat (h : fieldAt vs k ≤ 1) : (yes vs k).toNat = fieldAt vs k := by
  unfold yes
  match fieldAt vs k, h with
  | 0, _ | 1, _ => rfl

theorem code_toNat (h : n ≤ 255) : (code n).toNat = n := by
  rw [code, BitVec.toNat_ofNat]
  omega

theorem PortSel.ofCode_spec (h : n ≤ 2) :
    (PortSel.ofCode n).code = n ∧ [PortSel.a, .b, .either][n]? = some (PortSel.ofCode n) :=
  match n, h with
  | 0, _ | 1, _ | 2, _ => ⟨rfl, rfl⟩

theorem Action.ofCode_spec (h : n ≤ 3) :
    (Action.ofCode n).code = n ∧ [Action.forward, .observe, .consume, .drop][n]? = some (Action.ofCode n) :=
  match n, h with
  | 0, _ | 1, _ | 2, _ | 3, _ => ⟨rfl, rfl⟩

theorem MonCondition.ofCode_spec (h : n ≤ 4) : (MonCondition.ofCode n).code = n ∧
    [MonCondition.above, .below, .crossUp, .crossDown, .crossAny][n]? = some (MonCondition.ofCode n) :=
  match n, h with
  | 0, _ | 1, _ | 2, _ | 3, _ | 4, _ => ⟨rfl, rfl⟩

theorem StorePolicy.ofCode_spec (h : n ≤ 2) : (StorePolicy.ofCode n).code = n ∧
    [StorePolicy.overwriteOldest, .keepUnread, .keepTimed][n]? = some (StorePolicy.ofCode n) :=
  match n, h with
  | 0, _ | 1, _ | 2, _ => ⟨rfl, rfl⟩

theorem MarkPolicy.ofCode_spec (h : n ≤ 2) : (MarkPolicy.ofCode n).code = n ∧
    [MarkPolicy.overwrite, .holdUntilRead, .holdWithExpiry][n]? = some (MarkPolicy.ofCode n) :=
  match n, h with
  | 0, _ | 1, _ | 2, _ => ⟨rfl, rfl⟩

theorem portOfCode_spec (h : n ≤ 1) : portCode (portOfCode n) = n ∧ [Port.a, .b][n]? = some (portOfCode n) :=
  match n, h with
  | 0, _ | 1, _ => ⟨rfl, rfl⟩

/-- A threshold is carried in two's complement. -/
theorem ofSigned16_toNat (h : n ≤ 65535) : (ofSigned16 n % 65536).toNat = n := by
  unfold ofSigned16
  split <;> omega

/-- The action set is the sum of its members' values (section 9.1). -/
theorem actionSet_sum (h : n ≤ 15) : (n % 2 == 1).toNat + 2 * (n / 2 % 2 == 1).toNat + 4 * (n / 4 % 2 == 1).toNat +
    8 * (n / 8 % 2 == 1).toNat = n := by
  have hall : ∀ n ≤ 15, (n % 2 == 1).toNat + 2 * (n / 2 % 2 == 1).toNat + 4 * (n / 4 % 2 == 1).toNat +
    8 * (n / 8 % 2 == 1).toNat = n := by decide
  exact hall n h

end

/-! ## Roles and monitor sources (R10, R140) -/

theorem Role.fields_ofFields {role arg1 arg2 : Nat} {r : Role} (h : Role.ofFields role arg1 arg2 = some r) :
    r.fields = [role, arg1, arg2] := by
  unfold Role.ofFields at h
  split at h
  case h_7 => exact nomatch h
  all_goals
    split at h
    · obtain rfl := Option.some.inj h
      simp [Role.fields, *]
    · exact nomatch h

/-- A role argument suits its role, and the role the kind, as R10 says. -/
theorem Role.ofFields_fits_iff {role arg1 arg2 kind : Nat} (h : role ≤ 5) :
    (∃ r, Role.ofFields role arg1 arg2 = some r ∧ roleKindFits r kind = true) ↔
      (role ∈ [0, 1, 2, 5] → arg1 = 0 ∧ arg2 = 0) ∧ (role = 3 → arg1 ≤ arg2 ∧ arg2 ≤ 5) ∧ (role = 4 → arg1 ≤ 7 ∧ arg2 = 0) ∧
        (role = 1 ∨ role = 2 → kind = 0x11) ∧ (role = 3 → kind = 0x21) ∧ (role = 4 → kind = 0x32) ∧ (role = 5 → kind = 0x41) := by
  match role, h with
  | 0, _ | 1, _ | 2, _ | 5, _ =>
    by_cases ha : arg1 = 0 ∧ arg2 = 0 <;> simp [Role.ofFields, ha, roleKindFits]
  | 3, _ =>
    have hlast : arg2 < 6 ↔ arg2 ≤ 5 := Nat.lt_succ_iff
    by_cases ha : arg1 ≤ arg2 ∧ arg2 ≤ 5 <;> simp [Role.ofFields, hlast, ha, roleKindFits]
  | 4, _ =>
    have hnode : arg1 < 8 ↔ arg1 ≤ 7 := Nat.lt_succ_iff
    by_cases ha : arg1 ≤ 7 ∧ arg2 = 0 <;> simp [Role.ofFields, hnode, ha, roleKindFits]

theorem MonSource.fields_ofFields {kind index : Nat} {x : MonSource} (h : MonSource.ofFields kind index = some x) :
    x.fields = [kind, index] := by
  unfold MonSource.ofFields at h
  split at h
  case h_10 =>
    split at h
    · obtain rfl := Option.some.inj h
      subst index
      rfl
    · split at h
      · obtain rfl := Option.some.inj h
        subst index
        rfl
      · exact nomatch h
  case h_11 => exact nomatch h
  all_goals
    split at h
    · obtain rfl := Option.some.inj h
      simp [MonSource.fields, *]
    · exact nomatch h

/-- A source index suits its source kind as Table 9-2 says (R140). -/
theorem MonSource.ofFields_isSome_iff {kind index : Nat} (hlo : 1 ≤ kind) (hhi : kind ≤ 10) :
    (MonSource.ofFields kind index).isSome = true ↔
      (kind ≤ 8 → index = 0) ∧ (kind = 9 → index ≤ 5) ∧ (kind = 10 → index = 1 ∨ index = 2) := by
  match kind, hlo, hhi with
  | 1, _, _ | 2, _, _ | 3, _, _ | 4, _, _ | 5, _, _ | 6, _, _ | 7, _, _ | 8, _, _ =>
    by_cases hi : index = 0 <;> simp [MonSource.ofFields, hi]
  | 9, _, _ =>
    have haxle : index < 6 ↔ index ≤ 5 := Nat.lt_succ_iff
    by_cases hi : index ≤ 5 <;> simp [MonSource.ofFields, haxle, hi]
  | 10, _, _ =>
    by_cases h1 : index = 1
    · simp [MonSource.ofFields, h1]
    · by_cases h2 : index = 2 <;> simp [MonSource.ofFields, h1, h2]

end Sys2Proof.Machine

/-! What an accepted write leaves in its entry and in every other (R169). -/

namespace Sys2Proof.Machine

/-! ## An entry written -/

section
variable {own : Byte} {vs : List Nat}

theorem ClassEntry.fields_ofFields {i : Fin 32} {e : ClassEntry} (hv : inRanges (fieldsOf (.classify i)) vs = true)
    (h : ClassEntry.ofFields vs = some e) : e.fields = vs := by
  unfold ClassEntry.ofFields at h
  split at h
  · exact nomatch h
  · rename_i role hrole
    split at h
    · obtain rfl := Option.some.inj h
      rw [ClassEntry.fields, Role.fields_ofFields hrole]
      dsimp only
      rw [yes_toNat (fieldAt_le_of_inRanges (k := 0) hv rfl), code_toNat (fieldAt_le_of_inRanges (k := 1) hv rfl),
        code_toNat (fieldAt_le_of_inRanges (k := 2) hv rfl), (PortSel.ofCode_spec (fieldAt_le_of_inRanges (k := 3) hv rfl)).1,
        (Action.ofCode_spec (fieldAt_le_of_inRanges (k := 4) hv rfl)).1]
      exact range_map_fieldAt (inRanges_length hv)
    · exact nomatch h

theorem NodeEntry.fields_ofFields {n : NodeSlot} {e : NodeEntry} (hv : inRanges (fieldsOf (.node n)) vs = true)
    (h : NodeEntry.ofFields own vs = some e) : e.fields = vs := by
  unfold NodeEntry.ofFields at h
  split at h
  · exact nomatch h
  · obtain rfl := Option.some.inj h
    rw [NodeEntry.fields, yes_toNat (fieldAt_le_of_inRanges (k := 0) hv rfl),
      code_toNat ((fieldAt_le_of_inRanges (k := 1) hv rfl).trans (by decide))]
    exact range_map_fieldAt (inRanges_length hv)

theorem MonEntry.fields_ofFields {m : Fin 8} {e : MonEntry} (hv : inRanges (fieldsOf (.monitor m)) vs = true)
    (h : MonEntry.ofFields vs = some e) : e.fields = vs := by
  unfold MonEntry.ofFields at h
  split at h
  · exact nomatch h
  · rename_i source hsource
    obtain rfl := Option.some.inj h
    rw [MonEntry.fields, MonSource.fields_ofFields hsource]
    dsimp only
    rw [yes_toNat (fieldAt_le_of_inRanges (k := 0) hv rfl),
      (MonCondition.ofCode_spec (fieldAt_le_of_inRanges (k := 3) hv rfl)).1,
      ofSigned16_toNat (fieldAt_le_of_inRanges (k := 4) hv rfl), actionSet_sum (fieldAt_le_of_inRanges (k := 7) hv rfl)]
    exact range_map_fieldAt (inRanges_length hv)

/-- The values an accepted write carries are the entry's field values. -/
theorem Tables.entryFields_withFields {t u : Tables} {e : TableRef} (hv : inRanges (fieldsOf e) vs = true)
    (h : t.withFields own e vs = some u) : u.entryFields e = vs := by
  have hall := range_map_fieldAt (inRanges_length hv)
  cases e with
  | classify i =>
    obtain ⟨x, hx, rfl⟩ := Option.map_eq_some_iff.1 h
    exact (congrArg ClassEntry.fields ((vector_set_get _ i i x).trans (if_pos rfl))).trans (ClassEntry.fields_ofFields hv hx)
  | node n =>
    obtain ⟨x, hx, rfl⟩ := Option.map_eq_some_iff.1 h
    exact (congrArg NodeEntry.fields ((vector_set_get _ n n x).trans (if_pos rfl))).trans (NodeEntry.fields_ofFields hv hx)
  | monitor m =>
    obtain ⟨x, hx, rfl⟩ := Option.map_eq_some_iff.1 h
    exact (congrArg MonEntry.fields ((vector_set_get _ m m x).trans (if_pos rfl))).trans (MonEntry.fields_ofFields hv hx)
  | axle i =>
    obtain rfl := Option.some.inj h
    simp only [Tables.entryFields, vector_set_get, if_true, yes_toNat (fieldAt_le_of_inRanges (k := 0) hv rfl)]
    exact hall
  | truck k =>
    obtain rfl := Option.some.inj h
    simp only [Tables.entryFields, vector_set_get, if_true, yes_toNat (fieldAt_le_of_inRanges (k := 0) hv rfl)]
    exact hall
  | curvePoint k =>
    obtain rfl := Option.some.inj h
    simp only [Tables.entryFields, vector_set_get, if_true]
    exact hall
  | blend =>
    obtain rfl := Option.some.inj h
    simp only [Tables.entryFields, BlendSet.fields, BlendSet.ofFields, yes_toNat (fieldAt_le_of_inRanges (k := 5) hv rfl),
      yes_toNat (fieldAt_le_of_inRanges (k := 8) hv rfl)]
    exact hall
  | recorder =>
    obtain rfl := Option.some.inj h
    simp only [Tables.entryFields, RecorderSet.fields, RecorderSet.ofFields, yes_toNat (fieldAt_le_of_inRanges (k := 3) hv rfl),
      (StorePolicy.ofCode_spec (fieldAt_le_of_inRanges (k := 4) hv rfl)).1]
    exact hall
  | time =>
    obtain rfl := Option.some.inj h
    simp only [Tables.entryFields, (MarkPolicy.ofCode_spec (fieldAt_le_of_inRanges (k := 0) hv rfl)).1]
    exact hall
  | link =>
    simp only [Tables.withFields] at h
    split at h
    · exact nomatch h
    · obtain rfl := Option.some.inj h
      simp only [Tables.entryFields, code_toNat (fieldAt_le_of_inRanges (k := 0) hv rfl),
        (portOfCode_spec (fieldAt_le_of_inRanges (k := 1) hv rfl)).1]
      exact hall
  | curveCount | ramp | speed | slide =>
    obtain rfl := Option.some.inj h
    exact hall

/-- A vector written at one slot reads as before at another. -/
theorem vector_set_get_ne {α : Type} {n : Nat} (v : Vector α n) {i j : Fin n} (h : j ≠ i) (x : α) : (v.set i x)[j] = v[j] :=
  (vector_set_get v i j x).trans (if_neg (Ne.symm h))

/-- A write leaves every other entry's field values alone. -/
theorem Tables.entryFields_withFields_other {t u : Tables} {e e' : TableRef} (h : t.withFields own e vs = some u) (he : e' ≠ e) :
    u.entryFields e' = t.entryFields e' := by
  cases e with
  | classify i =>
    obtain ⟨x, -, rfl⟩ := Option.map_eq_some_iff.1 h
    cases e' with
    | classify j => exact congrArg ClassEntry.fields (vector_set_get_ne _ (fun hj => he (congrArg _ hj)) x)
    | _ => rfl
  | node i =>
    obtain ⟨x, -, rfl⟩ := Option.map_eq_some_iff.1 h
    cases e' with
    | node j => exact congrArg NodeEntry.fields (vector_set_get_ne _ (fun hj => he (congrArg _ hj)) x)
    | _ => rfl
  | monitor i =>
    obtain ⟨x, -, rfl⟩ := Option.map_eq_some_iff.1 h
    cases e' with
    | monitor j => exact congrArg MonEntry.fields (vector_set_get_ne _ (fun hj => he (congrArg _ hj)) x)
    | _ => rfl
  | axle i =>
    obtain rfl := Option.some.inj h
    cases e' with
    | axle j => simp only [Tables.entryFields, vector_set_get_ne _ fun hj => he (congrArg _ hj)]
    | _ => rfl
  | truck i =>
    obtain rfl := Option.some.inj h
    cases e' with
    | truck j => simp only [Tables.entryFields, vector_set_get_ne _ fun hj => he (congrArg _ hj)]
    | _ => rfl
  | curvePoint i =>
    obtain rfl := Option.some.inj h
    cases e' with
    | curvePoint j => simp only [Tables.entryFields, vector_set_get_ne _ fun hj => he (congrArg _ hj)]
    | _ => rfl
  | link =>
    simp only [Tables.withFields] at h
    split at h
    · exact nomatch h
    · obtain rfl := Option.some.inj h
      cases e' with
      | link => exact absurd rfl he
      | _ => rfl
  | curveCount | blend | ramp | speed | slide | recorder | time =>
    obtain rfl := Option.some.inj h
    cases e' <;> first | rfl | exact absurd rfl he

end

/-- An accepted write's values lie in their ranges, and the tables take them. -/
theorem Tables.written_eq_some {own : Byte} {t u : Tables} {e : TableRef} {data : List Byte} (h : t.written own e data = some u) :
    inRanges (fieldsOf e) (readFields (fieldsOf e) data) = true ∧
      t.withFields own e (readFields (fieldsOf e) data) = some u := by
  simp only [Tables.written] at h
  split at h
  · exact ⟨‹_›, h⟩
  · exact nomatch h

/-- Settles O15, by the field values an accepted write leaves in its entry and in every other. -/
theorem writtenEntriesAreReadBack : Obligations.WrittenEntriesAreReadBack := by
  intro own t u e data hl h
  obtain ⟨hv, hw⟩ := Tables.written_eq_some h
  refine ⟨?_, fun e' he => ?_⟩
  · rw [Tables.entryBytes, Tables.entryFields_withFields hv hw]
    exact writeFields_readFields _ _ hl
  · rw [Tables.entryBytes, Tables.entryFields_withFields_other hw he]
    rfl

end Sys2Proof.Machine

/-! Which writes are accepted and the values they leave (R169): the combinations an owning chapter refuses (R10, R122, R140), and
the contents of a written entry. -/

namespace Sys2Proof.Machine

/-! ## Refused combinations (R10, R122, R140) -/

section
variable {own : Byte} {vs : List Nat}

theorem code_eq_iff {n : Nat} (h : n ≤ 255) (b : Byte) : code n = b ↔ n = b.toNat := by
  rw [← BitVec.toNat_inj, code_toNat h]

theorem ClassEntry.ofFields_isSome_iff : (ClassEntry.ofFields vs).isSome = true ↔
    ∃ r, Role.ofFields (fieldAt vs 5) (fieldAt vs 6) (fieldAt vs 7) = some r ∧ roleKindFits r (fieldAt vs 2) = true := by
  unfold ClassEntry.ofFields
  split
  · simp [*]
  · split <;> simp [*]

theorem NodeEntry.ofFields_isSome_iff (h : fieldAt vs 1 ≤ 255) : (NodeEntry.ofFields own vs).isSome = true ↔
    (fieldAt vs 0 = 1 → fieldAt vs 1 ≠ 0 ∧ fieldAt vs 1 ≠ own.toNat) := by
  unfold NodeEntry.ofFields
  simp only [code_eq_iff h, yes_eq_decide, decide_eq_true_eq]
  split
  · rename_i hrefused
    obtain ⟨hpresent, haddress⟩ := hrefused
    exact iff_of_false (by simp) fun hs => haddress.elim (hs hpresent).1 (hs hpresent).2
  · rename_i htaken
    exact iff_of_true rfl fun hpresent => ⟨fun h0 => htaken ⟨hpresent, .inl h0⟩, fun hown => htaken ⟨hpresent, .inr hown⟩⟩

theorem MonEntry.ofFields_isSome : (MonEntry.ofFields vs).isSome = (MonSource.ofFields (fieldAt vs 1) (fieldAt vs 2)).isSome := by
  unfold MonEntry.ofFields
  split <;> simp [*]

/-- Values in their ranges are taken unless their owning chapter refuses their combination. -/
theorem Tables.withFields_isSome_iff {t : Tables} {e : TableRef} (hv : inRanges (fieldsOf e) vs = true) :
    (t.withFields own e vs).isSome = true ↔ e.suits own (fieldAt vs) := by
  cases e with
  | classify i =>
    rw [Tables.withFields, Option.isSome_map, ClassEntry.ofFields_isSome_iff]
    exact Role.ofFields_fits_iff (fieldAt_le_of_inRanges (k := 5) hv rfl)
  | node n =>
    rw [Tables.withFields, Option.isSome_map]
    exact NodeEntry.ofFields_isSome_iff ((fieldAt_le_of_inRanges (k := 1) hv rfl).trans (by decide))
  | monitor m =>
    rw [Tables.withFields, Option.isSome_map, MonEntry.ofFields_isSome]
    exact MonSource.ofFields_isSome_iff (le_fieldAt_of_inRanges (k := 1) hv rfl) (fieldAt_le_of_inRanges (k := 1) hv rfl)
  | link =>
    have hcode := code_eq_iff (fieldAt_le_of_inRanges (k := 0) hv rfl) own
    rw [Tables.withFields, apply_ite Option.isSome, TableRef.suits, ne_eq, ← hcode]
    simp
  | axle | curvePoint | curveCount | blend | truck | ramp | speed | slide | recorder | time => exact iff_of_true rfl trivial

/-! ## The values an accepted write leaves -/

/-- An accepted write's values stand in the entry, in the order in which they are carried. -/
theorem Tables.holds_of_withFields {t u : Tables} {e : TableRef} (hv : inRanges (fieldsOf e) vs = true)
    (h : t.withFields own e vs = some u) : u.holds e (fieldAt vs) := by
  cases e with
  | classify i =>
    obtain ⟨x, hx, rfl⟩ := Option.map_eq_some_iff.1 h
    have hget : (t.classify.set i x)[i] = x := (vector_set_get _ i i x).trans (if_pos rfl)
    simp only [Tables.holds, hget]
    unfold ClassEntry.ofFields at hx
    split at hx
    · exact nomatch hx
    · rename_i role hrole
      have h5 : fieldAt vs 5 = role.fields.getD 0 0 := by rw [Role.fields_ofFields hrole]; rfl
      have h6 : fieldAt vs 6 = role.fields.getD 1 0 := by rw [Role.fields_ofFields hrole]; rfl
      have h7 : fieldAt vs 7 = role.fields.getD 2 0 := by rw [Role.fields_ofFields hrole]; rfl
      split at hx
      · obtain rfl := Option.some.inj hx
        refine ⟨rfl, rfl, rfl, (PortSel.ofCode_spec (fieldAt_le_of_inRanges (k := 3) hv rfl)).2,
          (Action.ofCode_spec (fieldAt_le_of_inRanges (k := 4) hv rfl)).2, ?_⟩
        cases role with
        | noRole | demand | timeMark => exact h5
        | axleSample => exact ⟨h5, h6, h7⟩
        | report => exact ⟨h5, h6⟩
      · exact nomatch hx
  | node n =>
    obtain ⟨x, hx, rfl⟩ := Option.map_eq_some_iff.1 h
    simp only [Tables.holds, vector_set_get, if_true]
    unfold NodeEntry.ofFields at hx
    split at hx
    · exact nomatch hx
    · exact (Option.some.inj hx).symm
  | monitor m =>
    obtain ⟨x, hx, rfl⟩ := Option.map_eq_some_iff.1 h
    have hget : (t.monitor.set m x)[m] = x := (vector_set_get _ m m x).trans (if_pos rfl)
    simp only [Tables.holds, hget]
    unfold MonEntry.ofFields at hx
    split at hx
    · exact nomatch hx
    · rename_i source hsource
      have h1 : fieldAt vs 1 = source.fields.getD 0 0 := by rw [MonSource.fields_ofFields hsource]; rfl
      have h2 : fieldAt vs 2 = source.fields.getD 1 0 := by rw [MonSource.fields_ofFields hsource]; rfl
      obtain rfl := Option.some.inj hx
      refine ⟨rfl, ?_, (MonCondition.ofCode_spec (fieldAt_le_of_inRanges (k := 3) hv rfl)).2, rfl, rfl, rfl, rfl, rfl, rfl, rfl⟩
      cases source with
      | axleSlip | truckPressure => exact ⟨h1, h2⟩
      | _ => exact h1
  | axle i | truck i | curvePoint i =>
    obtain rfl := Option.some.inj h
    exact (vector_set_get _ i i _).trans (if_pos rfl)
  | recorder =>
    obtain rfl := Option.some.inj h
    exact ⟨rfl, rfl, rfl, rfl, (StorePolicy.ofCode_spec (fieldAt_le_of_inRanges (k := 4) hv rfl)).2, rfl, rfl, rfl⟩
  | time =>
    obtain rfl := Option.some.inj h
    exact ⟨(MarkPolicy.ofCode_spec (fieldAt_le_of_inRanges (k := 0) hv rfl)).2, rfl⟩
  | link =>
    simp only [Tables.withFields] at h
    split at h
    · exact nomatch h
    · obtain rfl := Option.some.inj h
      exact ⟨rfl, (portOfCode_spec (fieldAt_le_of_inRanges (k := 1) hv rfl)).2⟩
  | curveCount | blend | ramp | speed | slide =>
    obtain rfl := Option.some.inj h
    rfl

end

end Sys2Proof.Machine

/-! READ_ENTRY and WRITE_ENTRY (R169), with the side effects of an AXLE write (R37, R50, R109). -/

namespace Sys2Proof.Machine

/-! ## The side effects of an AXLE write (R37, R50, R109) -/

/-- The axle's speed part is at rest; its slide part and the reference are not judged yet. -/
def State.axleRestarted (i : AxleSlot) (s : State) : State := s.onAxleSpeed i fun _ => AxleSpeed.rest s.tables.axle[i]

section
variable {i : AxleSlot} {s : State}

theorem State.axleRestarted_self : (s.axleRestarted i).speed.axles[i] = AxleSpeed.rest s.tables.axle[i] :=
  (State.onAxleSpeed_get i i _ s).trans (if_pos rfl)

/-- The axle is not VALID any more, so the VALID ones are the others. -/
theorem State.axleRestarted_valid_iff (j : AxleSlot) :
    (s.axleRestarted i).speed.axles[j].validity = .valid ↔ j ≠ i ∧ s.speed.axles[j].validity = .valid := by
  by_cases hj : j = i
  · subst hj
    rw [State.axleRestarted_self]
    simp [AxleSpeed.rest]
  · have hget : (s.axleRestarted i).speed.axles[j] = s.speed.axles[j] := vector_set_get_ne _ hj _
    simp [hget, hj]

theorem State.resetAxle_idle (h : s.speed.axles[i].validity ≠ .valid) : s.resetAxle i = s.axleRestarted i := by
  have hw : s.axleValid i = false := by simpa [State.axleValid] using h
  rw [State.resetAxle, hw]
  rfl

section
variable (hv : s.speed.axles[i].validity = .valid)
include hv

theorem State.resetAxle_other (h : ∃ j, j ≠ i ∧ s.speed.axles[j].validity = .valid) :
    s.resetAxle i = (s.axleRestarted i).restAxle i := by
  have hw : s.axleValid i = true := by simpa [State.axleValid] using hv
  obtain ⟨j, hj⟩ := h
  rw [State.resetAxle, hw]
  exact State.axleLost_other ⟨j, (State.axleRestarted_valid_iff j).2 hj⟩

/-- Outside RUN no reader of the reference reacts to its loss. -/
theorem State.resetAxle_last (hr : s.agent.part ≠ .run) (h : ∀ j, j ≠ i → s.speed.axles[j].validity ≠ .valid) :
    s.resetAxle i = ((s.axleRestarted i).restAxle i).holdReference := by
  have hw : s.axleValid i = true := by simpa [State.axleValid] using hv
  have hlost := State.axleLost_last (s := s.axleRestarted i) (i := i) fun j hj => by
    obtain ⟨hne, hvj⟩ := (State.axleRestarted_valid_iff j).1 hj
    exact h j hne hvj
  rw [State.referenceReaders_outside (by simpa [State.axleRestarted] using hr)] at hlost
  rw [State.resetAxle, hw]
  exact hlost

end

theorem State.resetAxle_self (hr : s.agent.part ≠ .run) : (s.resetAxle i).speed.axles[i] = AxleSpeed.rest s.tables.axle[i] := by
  rw [← State.axleRestarted_self]
  by_cases hv : s.speed.axles[i].validity = .valid
  · by_cases ho : ∃ j, j ≠ i ∧ s.speed.axles[j].validity = .valid
    · rw [State.resetAxle_other hv ho]
      rfl
    · rw [State.resetAxle_last hv hr fun j hj hjv => ho ⟨j, hj, hjv⟩, State.holdReference_axles]
      rfl
  · rw [State.resetAxle_idle hv]

end

/-! ## Services of the two requests (R169) -/

section
variable {s : State} {r : Request} {rest : List Request}

section
variable (h : s.asks r rest 0x03)
include h

theorem exec_readEntry_length (hl : r.args.length ≠ 2) : exec .readEntry s = .next (s.replied r .badRequest []) :=
  congrArg Host.Outcome.next (serve_refuse h.1 (State.asks_ofKind h rfl) (by simp [answerReadEntry, hl]))

variable {a b : Byte} (ha : r.args = [a, b])
include ha

theorem exec_readEntry_unknown (hn : ∀ e : TableRef, e.name ≠ (a.toNat, b.toNat)) :
    exec .readEntry s = .next (s.replied r .badIndex []) :=
  congrArg Host.Outcome.next (serve_refuse h.1 (State.asks_ofKind h rfl)
    (by simp [answerReadEntry, ha, Request.arg, byteAt, tableRef_eq_none hn]))

theorem exec_readEntry_known {e : TableRef} (hn : e.name = (a.toNat, b.toNat)) :
    exec .readEntry s = .next (s.replied r .ok (s.tables.entryBytes e)) :=
  congrArg Host.Outcome.next (serve_answer h.1 (State.asks_ofKind h rfl)
    (by simp [answerReadEntry, ha, Request.arg, byteAt, tableRef_eq_some.2 hn]))

end

theorem answerWriteEntry_known {a b : Byte} {data : List Byte} (ha : r.args = a :: b :: data) {e : TableRef}
    (hn : e.name = (a.toNat, b.toNat)) (hr : s.agent.part ≠ .run) : answerWriteEntry r s = s.writeEntry e data := by
  simp [answerWriteEntry, ha, Request.arg, byteAt, tableRef_eq_some.2 hn, State.running, hr]

section
variable (h : s.asks r rest 0x04)
include h

theorem exec_writeEntry_length (hl : r.args.length < 2) : exec .writeEntry s = .next (s.replied r .badRequest []) :=
  congrArg Host.Outcome.next (serve_refuse h.1 (State.asks_ofKind h rfl) (by simp [answerWriteEntry, hl]))

variable {a b : Byte} {data : List Byte} (ha : r.args = a :: b :: data)
include ha

theorem exec_writeEntry_unknown (hn : ∀ e : TableRef, e.name ≠ (a.toNat, b.toNat)) :
    exec .writeEntry s = .next (s.replied r .badIndex []) :=
  congrArg Host.Outcome.next (serve_refuse h.1 (State.asks_ofKind h rfl)
    (by simp [answerWriteEntry, ha, Request.arg, byteAt, tableRef_eq_none hn]))

variable {e : TableRef} (hn : e.name = (a.toNat, b.toNat))
include hn

theorem exec_writeEntry_locked (hr : s.agent.part = .run) : exec .writeEntry s = .next (s.replied r .locked []) :=
  congrArg Host.Outcome.next (serve_refuse h.1 (State.asks_ofKind h rfl)
    (by simp [answerWriteEntry, ha, Request.arg, byteAt, tableRef_eq_some.2 hn, State.running, hr]))

theorem exec_writeEntry_size (hr : s.agent.part ≠ .run) (hl : data.length ≠ e.size) :
    exec .writeEntry s = .next (s.replied r .badRequest []) := by
  refine congrArg Host.Outcome.next (serve_refuse h.1 (State.asks_ofKind h rfl) ?_)
  rw [answerWriteEntry_known ha hn hr]
  exact if_pos (e.size_eq ▸ hl)

theorem exec_writeEntry_refused (hr : s.agent.part ≠ .run) (hl : data.length = e.size)
    (hw : s.tables.written s.link.own e data = none) : exec .writeEntry s = .next (s.replied r .badValue []) := by
  refine congrArg Host.Outcome.next (serve_refuse h.1 (State.asks_ofKind h rfl) ?_)
  rw [answerWriteEntry_known ha hn hr, State.writeEntry, if_neg (not_not.2 (hl.trans e.size_eq)), hw]

theorem exec_writeEntry_taken (hr : s.agent.part ≠ .run) (hl : data.length = e.size) {t : Tables}
    (hw : s.tables.written s.link.own e data = some t) :
    exec .writeEntry s = .next ((State.afterWrite e { s with tables := t }).replied r .ok []) := by
  refine congrArg Host.Outcome.next (serve_answer h.1 (State.asks_ofKind h rfl) ?_)
  rw [answerWriteEntry_known ha hn hr, State.writeEntry, if_neg (not_not.2 (hl.trans e.size_eq)), hw]

end

end

/-- Values within their ranges that the owning chapter accepts are written, any others are not. -/
theorem Tables.written_cases (own : Byte) (t : Tables) (e : TableRef) (data : List Byte) :
    let v := fieldAt (readFields e.ranges data)
    let inRange := ∀ (k : Nat) (x : Field), e.ranges[k]? = some x → x.lo ≤ v k ∧ v k ≤ x.hi
    (¬ (inRange ∧ e.suits own v) → t.written own e data = none) ∧
      (inRange → e.suits own v → ∃ u, t.written own e data = some u ∧ u.holds e v) := by
  intro v inRange
  have hranges : inRanges (fieldsOf e) (readFields (fieldsOf e) data) = true ↔ inRange := by
    simp only [inRange, v, e.ranges_eq]
    exact inRanges_iff (readFields_length _ _)
  have hv : v = fieldAt (readFields (fieldsOf e) data) := by rw [← e.ranges_eq]
  refine ⟨fun hbad => ?_, fun hin hsuits => ?_⟩
  · refine Option.eq_none_iff_forall_ne_some.2 fun u hu => hbad ?_
    obtain ⟨hin, hw⟩ := Tables.written_eq_some hu
    exact ⟨hranges.1 hin, hv ▸ (Tables.withFields_isSome_iff hin).1 (by rw [hw]; rfl)⟩
  · have hin' := hranges.2 hin
    obtain ⟨u, hu⟩ := Option.isSome_iff_exists.1 ((Tables.withFields_isSome_iff (t := t) hin').2 (hv ▸ hsuits))
    exact ⟨u, by simp only [Tables.written, hin', if_true, hu], hv ▸ Tables.holds_of_withFields hin' hu⟩

/-- Settles O16: the checks in order, what `Tables.written` accepts, and the axle's loss with and without another VALID one. -/
theorem entryServices : Obligations.EntryServices := by
  intro s r rest
  refine ⟨fun h => ⟨exec_readEntry_length h, fun a b ha hn => exec_readEntry_unknown h ha hn,
    fun a b e ha hn => exec_readEntry_known h ha hn⟩, fun h => ⟨exec_writeEntry_length h,
    fun a b data ha hn => exec_writeEntry_unknown h ha hn, fun a b data e ha hn => ?_⟩⟩
  intro v inRange
  obtain ⟨hrefused, htaken⟩ := Tables.written_cases s.link.own s.tables e data
  refine ⟨exec_writeEntry_locked h ha hn, exec_writeEntry_size h ha hn,
    fun hr hl hbad => exec_writeEntry_refused h ha hn hr hl (hrefused hbad), fun hr hl hin hsuits => ?_⟩
  obtain ⟨t, ht, hholds⟩ := htaken hin hsuits
  obtain ⟨hbytes, hothers⟩ := writtenEntriesAreReadBack _ _ _ _ _ (hl.trans e.size_eq) ht
  refine ⟨t, hholds, hbytes, hothers, ?_⟩
  intro u
  refine ⟨(exec_writeEntry_taken h ha hn hr hl ht).trans ?_, fun i he => ?_⟩
  · cases e <;> rfl
  · subst he
    have hself : (u.resetAxle i).speed.axles[i] = AxleSpeed.rest t.axle[i] := State.resetAxle_self (s := u) hr
    have hentry : t.axle[i] = { enabled := decide (v 0 = 1), pulse := v 1 } := hholds
    refine ⟨by rw [hself, hentry]; rfl, fun hv => ?_, ?_⟩
    · rw [hself]
      exact State.resetAxle_idle (s := u) hv
    · rw [hself]
      intro gone hv
      refine ⟨fun hkeeps => ?_, fun hlast href => ?_⟩
      · by_cases ho : ∃ j, j ≠ i ∧ s.speed.axles[j].validity = .valid
        · exact State.resetAxle_other (s := u) hv ho
        · rw [State.resetAxle_last (s := u) hv hr fun j hj hjv => ho ⟨j, hj, hjv⟩]
          exact State.holdReference_idle (hkeeps.resolve_left ho)
      · rw [State.resetAxle_last (s := u) hv hr hlast]
        exact State.holdReference_valid (s := gone) href

end Sys2Proof.Machine

/-! The parameter tables stand in RUN (R169): no service but WRITE_ENTRY's, which RUN refuses, and no other command touches them. -/

namespace Sys2Proof.Machine

/-! ## Services and expiries -/

theorem State.markRead_tables (n : Option Nat) (s : State) : (s.markRead n).tables = s.tables := by
  cases n <;> rfl

theorem Answer.send_tables (a : Answer) (r : Request) : (a.send r).tables = a.state.tables := by
  unfold Answer.send
  split
  · rw [State.markRead_tables]
    simp
  · simp

/-- A service changes the tables as the effects of its request do. -/
theorem serve_tables {mine : Request → Bool} {act : Request → State → Answer} {s : State}
    (h : ∀ r, (act r s).state.tables = s.tables) : (serve mine act s).tables = s.tables := by
  unfold serve
  split
  · rfl
  · split
    · exact (Answer.send_tables _ _).trans (h _)
    · rfl

/-! ## The effects of the requests -/

section
variable (r : Request) (s : State)

theorem answerSetState_tables : (answerSetState r s).state.tables = s.tables := by
  have leave (p : PartState) : (s.requestLeave p).state.tables = s.tables := by
    unfold State.requestLeave
    split
    · simp [accepted_state]
    · rfl
  have run : s.requestRun.state.tables = s.tables := by
    unfold State.requestRun
    split <;> rfl
  unfold answerSetState
  split
  · rfl
  · split
    · rfl
    · unfold State.changeState
      split
      case h_7 => exact run
      case h_9 | h_10 => exact leave _
      case h_12 => simp [accepted_state]
      all_goals rfl

theorem answerWriteEntry_tables (hr : s.agent.part = .run) : (answerWriteEntry r s).state.tables = s.tables := by
  unfold answerWriteEntry
  split
  · rfl
  · split
    · rfl
    · rw [if_pos (by simp [State.running, hr])]
      rfl

theorem answerReadStatusPart_tables : (answerReadStatusPart r s).state.tables = s.tables := by
  unfold answerReadStatusPart State.partPage
  repeat' split
  all_goals rfl

theorem answerReadStatusLink_tables : (answerReadStatusLink r s).state.tables = s.tables := by
  unfold answerReadStatusLink State.linkAnswer
  split
  · rfl
  · split
    · rfl
    · split
      · rfl
      · show State.tables (ite _ _ _) = _
        split <;> rfl

theorem answerNode_tables {act : NodeSlot → State → State} (ha : ∀ n, (act n s).tables = s.tables) :
    (answerNode act r s).state.tables = s.tables := by
  unfold answerNode
  split
  · rfl
  · split
    · exact ha _
    · rfl

theorem answerTrigger_tables : (answerTrigger r s).state.tables = s.tables := by
  unfold answerTrigger
  split
  · rfl
  · split
    · show (s.trigger .management).tables = s.tables
      simp
    · rfl

theorem answerRecordRead_tables : (answerRecordRead r s).state.tables = s.tables := by
  unfold answerRecordRead State.snapshotPart
  repeat' split
  all_goals rfl

theorem answerRecordRelease_tables : (answerRecordRelease r s).state.tables = s.tables := by
  unfold answerRecordRelease
  repeat' split
  all_goals rfl

theorem answerTimeSet_tables : (answerTimeSet r s).state.tables = s.tables := by
  unfold answerTimeSet
  repeat' split
  all_goals rfl

theorem answerTimeCorrect_tables : (answerTimeCorrect r s).state.tables = s.tables := by
  unfold answerTimeCorrect
  repeat' split
  all_goals rfl

theorem answerInjectSample_tables : (answerInjectSample r s).state.tables = s.tables := by
  unfold answerInjectSample State.injected
  split
  · split
    · show (takeList 0 5 s.now r.args s).1.tables = s.tables
      simp
    · rfl
  all_goals rfl

theorem execReset_tables {t : State} (h : execReset s = .next t) : t.tables = s.tables := by
  obtain rfl := Host.Outcome.next.inj h
  split
  · rfl
  · split
    · split
      · simp
      · split
        · simp
        · dsimp only
          split <;> simp [State.softReset]
    · rfl

end

/-! ## The commands -/

/-- Settles O17, command by command. -/
theorem tablesStandInRun : Obligations.TablesStandInRun := by
  intro c s t hr hc he
  cases c with
  | powerOnReset x y => exact absurd rfl (hc x y)
  | receptionStart | countStep => obtain rfl := Host.Outcome.next.inj he; simp
  | frameArrival p f =>
    simp only [exec, execFrameArrival] at he
    split at he <;> obtain rfl := Host.Outcome.next.inj he <;> simp [State.endReception]
  | transmissionComplete p =>
    obtain rfl := Host.Outcome.next.inj he
    split <;> simp
  | axleAgeExpiry | referenceHoldExpiry | demandLossExpiry | epochTimerExpiry | slideHoldExpiry | exchangeDeadlineExpiry |
    reliefLockoutExpiry | controlLossExpiry | lineDebounceExpiry | lineActiveEdge | lineInactiveEdge =>
    obtain rfl := Host.Outcome.next.inj he
    split <;> simp
  | setState => obtain rfl := Host.Outcome.next.inj he; exact serve_tables fun r => answerSetState_tables r s
  | writeEntry => obtain rfl := Host.Outcome.next.inj he; exact serve_tables fun r => answerWriteEntry_tables r s hr
  | readStatusPart => obtain rfl := Host.Outcome.next.inj he; exact serve_tables fun r => answerReadStatusPart_tables r s
  | readStatusLink => obtain rfl := Host.Outcome.next.inj he; exact serve_tables fun r => answerReadStatusLink_tables r s
  | nodeCut | nodeRestore => obtain rfl := Host.Outcome.next.inj he; exact serve_tables fun r => answerNode_tables r s (by simp)
  | trigger => obtain rfl := Host.Outcome.next.inj he; exact serve_tables fun r => answerTrigger_tables r s
  | recordRead => obtain rfl := Host.Outcome.next.inj he; exact serve_tables fun r => answerRecordRead_tables r s
  | recordRelease => obtain rfl := Host.Outcome.next.inj he; exact serve_tables fun r => answerRecordRelease_tables r s
  | timeSet => obtain rfl := Host.Outcome.next.inj he; exact serve_tables fun r => answerTimeSet_tables r s
  | timeCorrect => obtain rfl := Host.Outcome.next.inj he; exact serve_tables fun r => answerTimeCorrect_tables r s
  | injectSample => obtain rfl := Host.Outcome.next.inj he; exact serve_tables fun r => answerInjectSample_tables r s
  | reset => exact execReset_tables s he
  | mgmtUnknownKind => obtain rfl := Host.Outcome.next.inj he; exact serve_tables fun _ => rfl
  | getState | readEntry | readStatusNodes | readStatusSpeed | readEvents | clearFallback | recordList | recordHeader | timeRead |
    readTimemark =>
    obtain rfl := Host.Outcome.next.inj he
    refine serve_tables fun r => ?_
    dsimp only [answerGetState, answerReadEntry, answerReadStatusNodes, answerReadStatusSpeed, answerReadEvents,
      answerClearFallback, answerRecordList, answerRecordHeader, answerTimeRead, answerReadTimemark]
    repeat' split
    all_goals rfl

end Sys2Proof.Machine

/-! The checks C1 to C10 of the parameter tables (R67, R94, R122, R171), each as the manual states it, and the first that fails. -/

namespace Sys2Proof.Machine

/-! ## Slots and entries searched -/

theorem mem_nodeSlots (n : NodeSlot) : n ∈ nodeSlots := by fin_cases n <;> simp [nodeSlots]

theorem any_nodeSlots_eq_false {p : NodeSlot → Bool} : nodeSlots.any p = false ↔ ∀ n, p n = false := by
  simp [mem_nodeSlots]

theorem any_axleSlots_eq_false {p : AxleSlot → Bool} : axleSlots.any p = false ↔ ∀ i, p i = false := by
  simp [mem_axleSlots]

variable {t : Tables}

theorem Tables.any_validEntries {p : ClassEntry → Bool} : t.validEntries.any p = true ↔
    ∃ k : Fin 32, t.classify[k].valid = true ∧ p t.classify[k] = true := by
  rw [Tables.validEntries, List.any_eq_true]
  constructor
  · rintro ⟨e, he, hp⟩
    obtain ⟨hmem, hvalid⟩ := List.mem_filter.1 he
    obtain ⟨k, hk, rfl⟩ := List.getElem_of_mem hmem
    exact ⟨⟨k, by simpa using hk⟩, by simpa using hvalid, by simpa using hp⟩
  · rintro ⟨k, hvalid, hp⟩
    exact ⟨t.classify[k], List.mem_filter.2 ⟨by simp, hvalid⟩, hp⟩

/-! ## C1 and C2: the CLASSIFY entries -/

theorem Tables.failsC1_eq_false : t.failsC1 = false ↔
    ∃ k : Fin 32, t.classify[k].valid = true ∧ t.classify[k].role = .demand 0 := by
  rw [Tables.failsC1, Bool.not_eq_false', Tables.any_validEntries]
  simp only [decide_eq_true_eq]

theorem portsOverlap_eq_false {x y : PortSel} : portsOverlap x y = false ↔ (x = .a ∧ y = .b) ∨ (x = .b ∧ y = .a) := by
  cases x <;> cases y <;> decide

theorem entriesClash_eq_false {x y : ClassEntry} : entriesClash x y = false ↔
    (x.source = y.source → x.kind = y.kind → (x.port = .a ∧ y.port = .b) ∨ (x.port = .b ∧ y.port = .a)) := by
  rw [← portsOverlap_eq_false, entriesClash]
  simp only [Bool.and_eq_false_iff, beq_eq_false_iff_ne]
  tauto

theorem someClash_eq_false {l : List ClassEntry} : someClash l = false ↔ l.Pairwise fun x y => entriesClash x y = false := by
  induction l with
  | nil => simp [someClash]
  | cons e es ih => simp [someClash, ih, List.any_eq_false]

theorem Tables.failsC2_eq_false : t.failsC2 = false ↔ ∀ k j : Fin 32, k ≠ j → t.classify[k].valid = true →
    t.classify[j].valid = true → t.classify[k].source = t.classify[j].source → t.classify[k].kind = t.classify[j].kind →
      (t.classify[k].port = .a ∧ t.classify[j].port = .b) ∨ (t.classify[k].port = .b ∧ t.classify[j].port = .a) := by
  rw [Tables.failsC2, someClash_eq_false, Tables.validEntries, List.pairwise_filter, List.pairwise_iff_getElem]
  simp only [entriesClash_eq_false]
  constructor
  · intro h k j hkj hk hj hs hkind
    rcases Nat.lt_or_gt_of_ne (Fin.val_ne_of_ne hkj) with hlt | hlt
    · exact h k j (by simp) (by simp) hlt (by simpa using hk) (by simpa using hj) (by simpa using hs) (by simpa using hkind)
    · have hports := h j k (by simp) (by simp) hlt (by simpa using hj) (by simpa using hk) (by simpa using hs.symm)
        (by simpa using hkind.symm)
      simpa [or_comm, and_comm] using hports
  · intro h k j hk hj hlt hvk hvj hs hkind
    have hk' : k < 32 := by simpa using hk
    have hj' : j < 32 := by simpa using hj
    have := h ⟨k, hk'⟩ ⟨j, hj'⟩ (by simp [hlt.ne])
    simp_all

/-! ## C3: the capability curve -/

theorem risingSpeeds_iff (l : List CurvePoint) : risingSpeeds l = true ↔ l.IsChain fun p q => p.speed < q.speed := by
  fun_induction risingSpeeds l with
  | case1 p q rest ih => rw [Bool.and_eq_true, decide_eq_true_eq, ih, List.isChain_cons_cons]
  | case2 l h =>
    match l, h with
    | [], _ => simp
    | [p], _ => simp
    | p :: q :: rest, h => exact absurd rfl (h p q rest)

theorem Tables.failsC3_eq_false : t.failsC3 = false ↔ (t.curve.points.toList.getD 0 ⟨0, 0⟩).speed = 0 ∧
    ∀ k, k + 1 < min t.curve.count 16 →
      (t.curve.points.toList.getD k ⟨0, 0⟩).speed < (t.curve.points.toList.getD (k + 1) ⟨0, 0⟩).speed := by
  have hlength : t.curve.curve.length = min t.curve.count 16 := by simp [CurveTable.curve]
  rw [Tables.failsC3, Bool.or_eq_false_iff, Bool.not_eq_false', risingSpeeds_iff, List.isChain_iff_getElem, decide_eq_false_iff_not,
    not_not]
  refine and_congr (by simp) ⟨fun h k hk => ?_, fun h k hk => ?_⟩
  · have hstep := h k (hlength ▸ hk)
    rwa [CurveTable.curve_get, CurveTable.curve_get] at hstep
  · rw [CurveTable.curve_get, CurveTable.curve_get]
    exact h k (hlength ▸ hk)

/-! ## C4 to C6: periods, steps and pressures -/

theorem Tables.failsC4_eq_false : t.failsC4 = false ↔
    ∀ n : NodeSlot, t.node[n].present = true → t.node[n].response < t.blend.period := by
  simp only [Tables.failsC4, any_nodeSlots_eq_false, Bool.and_eq_false_imp, decide_eq_false_iff_not, not_le]

theorem stepBelowOne_eq_false {rate period : Nat} : stepBelowOne rate period = false ↔ 1000 ≤ rate * period := by
  rw [stepBelowOne, decide_eq_false_iff_not, not_lt]

theorem Tables.failsC5_eq_false : t.failsC5 = false ↔
    1000 ≤ t.ramp.application * t.blend.period ∧ 1000 ≤ t.ramp.release * t.blend.period ∧
      1000 ≤ t.ramp.airApplication * t.blend.period ∧ 1000 ≤ t.ramp.airRelease * t.blend.period ∧
      (t.ramp.jerk ≠ 0 → 1000 ≤ t.ramp.jerk * t.blend.period) := by
  simp only [Tables.failsC5, Bool.or_eq_false_iff, stepBelowOne_eq_false, Bool.and_eq_false_imp, decide_eq_true_eq, and_assoc]

theorem TruckEntry.inconsistent_eq_false {k : TruckEntry} :
    k.inconsistent = false ↔ k.dead < k.maximum ∧ k.emergency ≤ k.maximum := by
  simp [TruckEntry.inconsistent]

theorem Tables.failsC6_eq_false : t.failsC6 = false ↔
    ∀ k : TruckSlot, t.truck[k].dead < t.truck[k].maximum ∧ t.truck[k].emergency ≤ t.truck[k].maximum := by
  rw [Tables.failsC6, Bool.or_eq_false_iff, TruckEntry.inconsistent_eq_false, TruckEntry.inconsistent_eq_false, Fin.forall_fin_two]
  rfl

/-! ## C7 to C10: nodes, axles, slide and recorder -/

theorem ClassEntry.reportsNode_iff {e : ClassEntry} {n : NodeSlot} {address : Byte} : e.reportsNode n address = true ↔
    e.role = .report n ∧ e.source = address ∧ (e.action = .observe ∨ e.action = .consume) ∧ (e.port = .b ∨ e.port = .either) := by
  simp [ClassEntry.reportsNode, and_assoc]

theorem Tables.sharedAddress_eq_false : t.sharedAddress = false ↔ ∀ n m : NodeSlot, t.node[n].present = true →
    t.node[m].present = true → n ≠ m → t.node[n].address ≠ t.node[m].address := by
  simp only [Tables.sharedAddress, any_nodeSlots_eq_false, Bool.and_eq_false_imp, Bool.and_eq_true, decide_eq_true_eq,
    beq_eq_false_iff_ne]
  exact forall_congr' fun n => forall_congr' fun m => by tauto

theorem Tables.failsC7_eq_false : t.failsC7 = false ↔
    (∀ n m : NodeSlot, t.node[n].present = true → t.node[m].present = true → n ≠ m → t.node[n].address ≠ t.node[m].address) ∧
    ∀ n : NodeSlot, t.node[n].present = true → ∃ k : Fin 32, t.classify[k].valid = true ∧ t.classify[k].role = .report n ∧
      t.classify[k].source = t.node[n].address ∧ (t.classify[k].action = .observe ∨ t.classify[k].action = .consume) ∧
      (t.classify[k].port = .b ∨ t.classify[k].port = .either) := by
  simp only [Tables.failsC7, Bool.or_eq_false_iff, Tables.sharedAddress_eq_false, any_nodeSlots_eq_false, Bool.and_eq_false_imp,
    Bool.not_eq_false', Tables.any_validEntries, ClassEntry.reportsNode_iff]

theorem ClassEntry.samplesAxle_iff {e : ClassEntry} {i : AxleSlot} : e.samplesAxle i = true ↔
    ∃ x y, e.role = .axleSample x y ∧ x ≤ i ∧ i ≤ y := by
  unfold ClassEntry.samplesAxle
  split
  · simp_all
  · simp_all

theorem Tables.failsC8_eq_false : t.failsC8 = false ↔ ∀ i : AxleSlot, t.axle[i].enabled = true →
    ∃ (k : Fin 32) (x y : AxleSlot), t.classify[k].valid = true ∧ t.classify[k].role = .axleSample x y ∧ x ≤ i ∧ i ≤ y := by
  simp only [Tables.failsC8, any_axleSlots_eq_false, Bool.and_eq_false_imp, Bool.not_eq_false', Tables.any_validEntries,
    ClassEntry.samplesAxle_iff, exists_and_left]

theorem Tables.failsC9_eq_false : t.failsC9 = false ↔ t.slide.slipRelease < t.slide.slipOnset ∧
    ∀ n : NodeSlot, t.node[n].present = true → t.node[n].degrade < t.node[n].lost := by
  simp only [Tables.failsC9, Bool.or_eq_false_iff, any_nodeSlots_eq_false, Bool.and_eq_false_imp, decide_eq_false_iff_not, not_le]

theorem Tables.failsC10_eq_false : t.failsC10 = false ↔ t.recorder.depth + t.recorder.post ≤ t.recorder.maximum := by
  rw [Tables.failsC10, decide_eq_false_iff_not, not_lt]

/-! ## The first check that fails -/

theorem firstTrue_le (n : Nat) (bs : List Bool) : firstTrue n bs ≤ n + bs.length - 1 := by
  induction bs generalizing n with
  | nil => exact Nat.zero_le _
  | cons b bs ih =>
    have := ih (n + 1)
    rw [firstTrue, List.length_cons]
    split <;> omega

theorem firstTrue_eq_zero_iff {n : Nat} {bs : List Bool} (hn : 0 < n) : firstTrue n bs = 0 ↔ ∀ b ∈ bs, b = false := by
  induction bs generalizing n with
  | nil => simp [firstTrue]
  | cons b bs ih =>
    have := ih (n := n + 1) (by omega)
    cases b <;> simp [firstTrue, this, hn.ne']

theorem le_firstTrue {n : Nat} {bs : List Bool} (h : firstTrue n bs ≠ 0) : n ≤ firstTrue n bs := by
  induction bs generalizing n with
  | nil => exact absurd rfl h
  | cons b bs ih =>
    rw [firstTrue] at h ⊢
    split
    · exact Nat.le_refl n
    · rename_i hb
      rw [if_neg hb] at h
      exact (Nat.le_succ n).trans (ih h)

/-- The number of a value is that of the first true one when it is true and those before it are not. -/
theorem firstTrue_eq_iff {n k : Nat} {bs : List Bool} (hn : 0 < n) :
    firstTrue n bs = n + k ↔ bs[k]? = some true ∧ ∀ j < k, bs[j]? = some false := by
  induction bs generalizing n k with
  | nil =>
    simp [firstTrue]
    omega
  | cons b bs ih =>
    cases b with
    | true => cases k with
      | zero => simp [firstTrue]
      | succ k => exact iff_of_false (by simp [firstTrue]) fun h => nomatch h.2 0 (Nat.succ_pos k)
    | false => cases k with
      | zero =>
        refine iff_of_false (fun h : firstTrue (n + 1) bs = n => ?_) (by simp)
        have hpast : n + 1 ≤ firstTrue (n + 1) bs := le_firstTrue (by omega)
        omega
      | succ k =>
        have hrest : firstTrue n (false :: bs) = n + (k + 1) ↔ firstTrue (n + 1) bs = n + 1 + k := by
          rw [show n + (k + 1) = n + 1 + k by omega]
          rfl
        rw [hrest, ih (Nat.succ_pos n), Nat.forall_lt_succ_left]
        simp

/-- Whether each check fails, in order. -/
def Tables.failures (t : Tables) : List Bool :=
  [t.failsC1, t.failsC2, t.failsC3, t.failsC4, t.failsC5, t.failsC6, t.failsC7, t.failsC8, t.failsC9, t.failsC10]

theorem Tables.validate_eq (t : Tables) : t.validate = firstTrue 1 t.failures := rfl

/-- Settles O54, by the ten checks and the number of the first that fails. -/
theorem validationNamesTheFirstFailure : Obligations.ValidationNamesTheFirstFailure := by
  intro t entry point present stepped passes
  have hpasses (k : Nat) (h1 : 1 ≤ k) (h10 : k ≤ 10) : t.failures[k - 1]? = some false ↔ passes k := by
    match k, h1, h10 with
    | 1, _, _ => exact Option.some_inj.trans Tables.failsC1_eq_false
    | 2, _, _ => exact Option.some_inj.trans Tables.failsC2_eq_false
    | 3, _, _ => exact Option.some_inj.trans Tables.failsC3_eq_false
    | 4, _, _ => exact Option.some_inj.trans Tables.failsC4_eq_false
    | 5, _, _ => exact Option.some_inj.trans Tables.failsC5_eq_false
    | 6, _, _ => exact Option.some_inj.trans Tables.failsC6_eq_false
    | 7, _, _ => exact Option.some_inj.trans Tables.failsC7_eq_false
    | 8, _, _ => exact Option.some_inj.trans Tables.failsC8_eq_false
    | 9, _, _ => exact Option.some_inj.trans Tables.failsC9_eq_false
    | 10, _, _ => exact Option.some_inj.trans Tables.failsC10_eq_false
  have hfails (k : Nat) (h1 : 1 ≤ k) (h10 : k ≤ 10) : t.failures[k - 1]? = some true ↔ ¬ passes k := by
    have hk : k - 1 < t.failures.length := Nat.lt_of_lt_of_le (by omega) (Nat.le_refl 10)
    rw [← hpasses k h1 h10, List.getElem?_eq_getElem hk]
    simp
  refine ⟨firstTrue_le 1 t.failures, ?_, fun k h1 h10 => ?_⟩
  · rw [Tables.validate_eq, firstTrue_eq_zero_iff Nat.one_pos, List.forall_mem_iff_getElem]
    refine ⟨fun h k h1 h10 => ?_, fun h i hi => ?_⟩
    · have hk : k - 1 < t.failures.length := Nat.lt_of_lt_of_le (by omega) (Nat.le_refl 10)
      exact (hpasses k h1 h10).1 (by rw [List.getElem?_eq_getElem hk, h])
    · have hi' : i < 10 := hi
      have hlater := (hpasses (1 + i) (by omega) (by omega)).2 (h (1 + i) (by omega) (by omega))
      rw [Nat.add_sub_cancel_left, List.getElem?_eq_getElem hi] at hlater
      exact Option.some.inj hlater
  · obtain ⟨i, rfl⟩ : ∃ i, k = 1 + i := ⟨k - 1, by omega⟩
    rw [Tables.validate_eq, firstTrue_eq_iff Nat.one_pos, ← hfails (1 + i) h1 h10, Nat.add_sub_cancel_left]
    refine and_congr_right fun _ => ⟨fun h j hj1 hj => ?_, fun h j hj => ?_⟩
    · exact (hpasses j hj1 (by omega)).1 (h (j - 1) (by omega))
    · have hlater := (hpasses (1 + j) (by omega) (by omega)).2 (h (1 + j) (by omega) (by omega))
      rwa [Nat.add_sub_cancel_left] at hlater

end Sys2Proof.Machine

/-! The values the blocks start with at a power-on reset, a soft reset and an entry into RUN (R173, R175, R176). -/

namespace Sys2Proof.Machine

/-! ## Start values, block by block -/

section
variable {s : State}

theorem State.speedAtStart (h : s.speed = SpeedBlock.start s.tables) : s.SpeedAtStart where
  axles i := by
    rw [h]
    exact vec6_get _ i
  reference := by
    rw [h]
    rfl

theorem State.demandAtStart {timer : Timer}
    (h : s.demand = { sources := vec2 fun _ => { SourceRec.powerOn with timer := timer }, eff := EffDemand.powerOn }) :
    s.DemandAtStart timer where
  sources d := by
    rw [h]
    exact vec2_get _ d
  effective := by
    rw [h]
    rfl

theorem State.blendAtStart {timer : Timer} {entry time : Count} {ref : RefRecord}
    (h : s.blend =
      { BlendBlock.start s.tables with
        runEntry := entry, timer := timer, pub := Publication.initial time s.tables.blend.period ref }) :
    s.BlendAtStart timer time ref.value ref.state ref.estimate := by
  constructor <;> rw [h]
  case axles => exact vec6_get _
  case trucks => exact vec2_get _
  case pubTrucks => exact vec2_get _
  case pubAxles => exact vec6_get _
  all_goals trivial

theorem State.slideAtStart (h : s.slide = SlideBlock.powerOn) : s.SlideAtStart where
  axles i := by
    rw [h]
    exact SlideBlock.powerOn_axle i
  trucks k := by
    rw [h]
    exact SlideBlock.powerOn_truck k

theorem State.nodesAtStart {state : NodeSlot → NodeState} (h : s.order.nodes = vec8 fun n => NodeRec.fresh (state n)) :
    s.NodesAtStart state := fun n => by
  rw [State.node, h]
  exact vec8_get _ n

theorem State.runsAtStart (h : s.monitor.runs = vec8 fun _ => RunState.powerOn) : s.RunsAtStart := fun m => by
  rw [h]
  exact vec8_get _ m

theorem LinkBlock.clearCounters_zero (l : LinkBlock) : l.clearCounters.CountersZero where
  ports p := by cases p <;> exact ⟨rfl, rfl, rfl, rfl, rfl⟩
  part := ⟨rfl, rfl, rfl, rfl, rfl⟩

theorem Tables.powerOn_atPowerOn : Tables.powerOn.AtPowerOn where
  classify k := by simp [Tables.powerOn, ClassEntry.powerOn]
  axle := vec6_get _
  node := vec8_get _
  curve := ⟨rfl, rfl⟩
  blend := rfl
  truck := vec2_get _
  ramp := rfl
  speed := rfl
  slide := rfl
  monitor := vec8_get _
  recorder := rfl
  time := rfl
  link := rfl

end

/-! ## Power-on reset (R175) -/

/-- Settles O3, block by block. -/
theorem powerOnResetValues : Obligations.PowerOnResetValues := by
  intro straps level s
  refine ⟨_, rfl, rfl, rfl, fun p => ?_, ?_, rfl, State.speedAtStart rfl, State.demandAtStart rfl,
    State.blendAtStart (ref := RefRecord.powerOn) rfl, State.slideAtStart rfl, State.nodesAtStart rfl, rfl,
    State.runsAtStart rfl, rfl, rfl, rfl, Tables.powerOn_atPowerOn, rfl⟩
  · cases p <;> exact ⟨rfl, rfl, rfl, rfl, rfl⟩
  · exact LinkBlock.clearCounters_zero (LinkBlock.powerOn straps)

/-! ## The invariants right after reset -/

/-- Settles O60, each invariant by the start values of the blocks it speaks of. -/
theorem invariantsHoldAtReset : Obligations.InvariantsHoldAtReset := by
  have hrest : State.reset.AtRest := .of_start rfl rfl rfl (fun n => congrArg NodeRec.exch (vec8_get _ n)) rfl nofun
  exact ⟨.of_start penalty_powerOn (fun d => congrArg SourceRec.payload (DemandBlock.powerOn_source d)) rfl,
    .of_start reliefFactor_powerOn rfl, .of_start fun m => ⟨_, vec8_get _ m⟩, .of_empty rfl,
    .of_closed (RecorderBlock.StoreFits.powerOn _) post_powerOn nofun, State.ringSound_iff.2 (.of_empty rfl rfl),
    fun _ => hrest, rfl, PortState.bounded_powerOn, PortState.bounded_powerOn, Nat.zero_le _⟩

/-! ## SET_STATE from CONFIG to RUN (R171, R173) -/

theorem exec_setState_badConfig {s : State} {r : Request} {rest : List Request} (h : s.asks r rest 0x02) (ha : r.args = [2])
    (hc : s.agent.part = .config) (hv : s.tables.validate ≠ 0) : exec .setState s = .next
      ((s.withValidation s.tables.validate).replied r .badConfig [code s.tables.validate]) := by
  have hanswer : answerSetState r s = ⟨s.withValidation s.tables.validate, .badConfig, [code s.tables.validate], none⟩ := by
    simp [answerSetState, ha, Request.arg, byteAt, partOfCode, State.changeState, hc, State.requestRun, hv]
  refine congrArg Host.Outcome.next ((serve_head h.1 (State.asks_ofKind h rfl)).trans ?_)
  rw [hanswer, Answer.send_plain _ _ rfl]
  rfl

theorem exec_setState_run {s : State} {r : Request} {rest : List Request} (h : s.asks r rest 0x02) (ha : r.args = [2])
    (hc : s.agent.part = .config) (hv : s.tables.validate = 0) :
    exec .setState s = .next ((s.withValidation 0).enterRun.replied r .ok [2]) := by
  refine exec_setState_changes h ha rfl ?_ rfl
  simp only [State.changeState, hc, State.requestRun, hv, if_true]

/-- Settles O53: the failing check, or the blocks at their RUN-entry values. -/
theorem runEntryIsValidated : Obligations.RunEntryIsValidated := by
  intro s r rest h ha hc v
  refine ⟨exec_setState_badConfig h ha hc, fun hv => ⟨_, exec_setState_run h ha hc hv, rfl, State.demandAtStart rfl,
    State.blendAtStart (ref := s.speed.ref) rfl, rfl, State.slideAtStart rfl, State.nodesAtStart rfl, rfl,
    State.runsAtStart rfl, rfl, rfl, rfl, rfl, rfl, rfl, rfl⟩⟩

end Sys2Proof.Machine

/-! RESET (R22, R176): its refusals, the response it offers first, and what the soft reset leaves of the ports. -/

namespace Sys2Proof.Machine

/-! ## The response to the RESET (R176) -/

theorem PortState.settle_rx (x : PortState) : x.settle.rx = x.rx := by
  unfold PortState.settle PortState.choose
  repeat' split
  all_goals rfl

section
variable (s : State) (r : Request) (st : Status) (data : List Byte)

theorem State.respond_own : (s.respond r st data).link.own = s.link.own := by
  unfold State.respond
  split
  · exact State.onPort_own ..
  · rfl

theorem State.respond_rx (q : Port) : ((s.respond r st data).port q).rx = (s.port q).rx := by
  unfold State.respond
  split
  · rw [State.accept_port, State.onPort_port]
    split
    · rename_i hq
      rw [PortState.settle_rx, hq]
    · rfl
  · rfl

theorem State.respond_otherPort : (s.respond r st data).port (otherPort r.port) = s.port (otherPort r.port) := by
  unfold State.respond
  split
  · rw [State.accept_port, State.onPort_port_otherPort]
  · rfl

end

/-! ## The ports at a soft reset (R22) -/

/-- The originated frames of a port that a soft reset keeps: the response to the RESET, where it still waits. -/
def State.resetKeeps (s : State) (r : Request) (p : Port) : List OrigFrame :=
  if p = r.port then keptResponse (s.hasRoom r.port) ((s.respond r .ok []).port r.port) else []

/-- The part after a RESET that is carried out. -/
def State.afterReset (s : State) (r : Request) : State :=
  (s.respond r .ok []).softReset (s.resetKeeps r .a) (s.resetKeeps r .b)

section
variable {s : State} {r : Request}

theorem State.afterReset_port (q : Port) :
    (s.afterReset r).port q = ((s.respond r .ok []).port q).softReset (s.resetKeeps r q) := by
  cases q <;> rfl

theorem State.resetKeeps_other : s.resetKeeps r (otherPort r.port) = [] := if_neg (Ne.symm (otherPort_ne r.port))

theorem State.resetKeeps_full (h : ¬ (s.port r.port).originated.length < 12) : s.resetKeeps r r.port = [] := by
  simp [State.resetKeeps, keptResponse, State.hasRoom, h]

theorem State.resetKeeps_room (h : (s.port r.port).originated.length < 12) : s.resetKeeps r r.port =
    ((s.respond r .ok []).port r.port).originated.drop (((s.respond r .ok []).port r.port).originated.length - 1) := by
  simp [State.resetKeeps, keptResponse, State.hasRoom, h]

/-- A SENDING line goes on, and the response waits for it (R22). -/
theorem State.afterReset_sending (hl : (s.port r.port).line ≠ .idle) :
    ((s.afterReset r).port r.port).line = (s.port r.port).line ∧
    ((s.afterReset r).port r.port).originated =
      if (s.port r.port).originated.length < 12 then
        [⟨.response, buildFrame r.source s.link.own kindResponse s.link.txSeq (responsePayload r .ok [])⟩]
      else [] := by
  rw [State.afterReset_port]
  split
  · rename_i hroom
    have hport : (s.respond r .ok []).port r.port = { s.port r.port with originated := (s.port r.port).originated ++
        [⟨.response, buildFrame r.source s.link.own kindResponse s.link.txSeq (responsePayload r .ok [])⟩] } := by
      rw [State.respond_room hroom, State.accept_port, State.onPort_port_same]
      exact PortState.settle_sending hl
    refine ⟨by rw [hport]; rfl, (State.resetKeeps_room hroom).trans ?_⟩
    rw [hport]
    simp
  · rename_i hfull
    rw [State.respond_full (Nat.le_of_not_lt hfull)]
    exact ⟨rfl, State.resetKeeps_full hfull⟩

/-- An empty port sends the response at once (R19, R22). -/
theorem State.afterReset_empty (h : (s.port r.port).Empty) :
    ((s.afterReset r).port r.port).line =
      .sending (buildFrame r.source s.link.own kindResponse s.link.txSeq (responsePayload r .ok [])) ∧
    ((s.afterReset r).port r.port).originated = [] := by
  have hroom : (s.port r.port).originated.length < 12 := by simp [h.originated]
  have hport : (s.respond r .ok []).port r.port = { s.port r.port with
      line := .sending (buildFrame r.source s.link.own kindResponse s.link.txSeq (responsePayload r .ok [])), run := 0 } := by
    rw [State.respond_room hroom, State.accept_port, State.onPort_port_same]
    exact h.settle_originated _
  rw [State.afterReset_port, hport]
  refine ⟨rfl, (State.resetKeeps_room hroom).trans ?_⟩
  rw [hport]
  simp [h.originated]

end

/-! ## The service of the request -/

section
variable {s : State} {r : Request} {rest : List Request} (h : s.asks r rest 0x3F)
include h

theorem exec_reset_arguments (ha : r.args ≠ []) : exec .reset s = .next (s.replied r .badRequest []) := by
  simp [exec, execReset, h.1, State.asks_ofKind h (k' := reqReset) rfl, ha, State.replied]

theorem exec_reset_locked (ha : r.args = []) (hr : s.agent.part = .run) : exec .reset s = .next (s.replied r .locked []) := by
  simp [exec, execReset, h.1, State.asks_ofKind h (k' := reqReset) rfl, ha, State.running, hr, State.replied]

theorem exec_reset_taken (ha : r.args = []) (hr : s.agent.part ≠ .run) : exec .reset s = .next (s.afterReset r) := by
  have hkeeps (q : Port) : s.resetKeeps r q =
      if q = r.port then keptResponse (s.hasRoom r.port) ((s.respond r .ok []).port r.port) else [] := rfl
  simp only [exec, execReset, h.1, State.asks_ofKind h (k' := reqReset) rfl, ha, State.running, State.afterReset, hkeeps]
  cases hp : r.port <;> simp [hr]

end

/-- Settles O57: the refusals, the two ports, and the blocks at their start values. -/
theorem resetKeepsWhatItMust : Obligations.ResetKeepsWhatItMust := by
  intro s r rest h
  refine ⟨exec_reset_arguments h, exec_reset_locked h, fun ha hr => ⟨_, exec_reset_taken h ha hr, ?_⟩⟩
  beta_reduce
  intro f
  have hf : buildFrame r.source s.link.own kindResponse s.link.txSeq (responsePayload r .ok []) = f := by
    rw [responsePayload, h.2]
    rfl
  obtain ⟨htime, -, -, -, -, horder, -, hrecorder, -, htables, -, hdraws⟩ := State.respond_keeps r .ok [] s
  refine ⟨rfl, State.respond_own s r _ _, rfl, ?_, fun p => ?_, ?_, ?_, fun hl => ?_, fun hl hfwd horig => ?_, ?_,
    State.speedAtStart rfl, State.demandAtStart rfl, State.blendAtStart (ref := RefRecord.powerOn) rfl, State.slideAtStart rfl,
    State.nodesAtStart ?_, rfl, State.runsAtStart rfl, rfl, ?_, htables, hdraws⟩
  · exact ⟨fun p => by cases p <;> exact ⟨rfl, rfl, rfl, rfl, rfl⟩, rfl, rfl, rfl, rfl, rfl⟩
  · rw [State.afterReset_port]
    exact ⟨rfl, rfl, State.respond_rx s r _ _ p⟩
  · rw [State.afterReset_port]
    exact State.resetKeeps_other
  · rw [State.afterReset_port, State.respond_otherPort]
    rfl
  · rw [← hf]
    exact State.afterReset_sending hl
  · rw [← hf]
    exact State.afterReset_empty ⟨hfwd, horig, hl⟩
  · show { (s.respond r .ok []).time with mark := MarkCapture.powerOn } = _
    rw [htime]
    rfl
  · show (vec8 fun n => ((s.respond r .ok []).node n).restart) = _
    simp only [State.node_congr horder]
    rfl
  · show { (s.respond r .ok []).recorder with ring := [], debounce := none } = _
    rw [hrecorder]

end Sys2Proof.Machine

/-! GET_STATE, SET_STATE outside RUN, and a request of an unknown kind (R167, R168, R172). -/

namespace Sys2Proof.Machine

/-! ## GET_STATE and unknown kinds (R167, R168) -/

theorem PartState.code_eq (x : PartState) :
    x.code = (match x with | .pass => 0 | .config => 1 | .run => 2 | .failsafe => 3 : Byte) := by
  cases x <;> rfl

theorem FailsafeCause.code_eq (x : FailsafeCause) :
    x.code = (match x with | .clear => 0 | .management => 1 | .monitor => 2 | .controlLost => 3 : Byte) := by
  cases x <;> rfl

theorem exec_getState {s : State} {r : Request} {rest : List Request} (h : s.asks r rest 0x01) : exec .getState s =
    .next (if r.args = [] then s.replied r .ok s.stateData else s.replied r .badRequest []) := by
  have hmine := State.asks_ofKind (k' := reqGetState) h rfl
  refine congrArg Host.Outcome.next ?_
  split
  · exact serve_answer h.1 hmine (by simp [answerGetState, *])
  · exact serve_refuse h.1 hmine (by simp [answerGetState, *])

theorem unknownKind_of_code {r : Request} (h : r.kind.toNat ∉ knownKinds.map BitVec.toNat) : unknownKind r = true := by
  have hkind : r.kind ∉ knownKinds := fun hk => h (List.mem_map_of_mem hk)
  simp [unknownKind, hkind]

/-- Settles O51: the ten bytes of GET_STATE, and the answer to a kind outside Table 1-12. -/
theorem getStateAndUnknownKinds : Obligations.GetStateAndUnknownKinds := by
  intro s r rest
  refine ⟨fun h => (exec_getState h).trans ?_, fun hq hk => ?_⟩
  · rw [State.stateData, PartState.code_eq, FailsafeCause.code_eq, h.1]
    rfl
  · exact congrArg Host.Outcome.next (serve_refuse hq (unknownKind_of_code hk) rfl)

/-! ## SET_STATE outside RUN (R172, Table 11-4) -/

section
variable {s : State} {r : Request} {rest : List Request}

theorem answerSetState_target {b : Byte} (ha : r.args = [b]) {p : PartState} (hp : partOfCode b.toNat = some p) :
    answerSetState r s = s.changeState p := by
  simp [answerSetState, ha, Request.arg, byteAt, hp]

theorem partOfCode_code (p : PartState) : partOfCode p.code.toNat = some p := by cases p <;> rfl

theorem partOfCode_above {n : Nat} (h : 3 < n) : partOfCode n = none := by
  match n, h with
  | _ + 4, _ => rfl

/-- A request for the present state is accepted (R172). -/
theorem State.changeState_stays (s : State) : s.changeState s.agent.part = accepted s := by
  unfold State.changeState
  cases s.agent.part <;> rfl

variable (h : s.asks r rest 0x02)
include h

theorem exec_setState_refused {st : Status} (ha : answerSetState r s = refuse s st) :
    exec .setState s = .next (s.replied r st []) :=
  congrArg Host.Outcome.next (serve_refuse h.1 (State.asks_ofKind h rfl) ha)

end

/-- Settles O52, cell by cell of Table 11-4. -/
theorem setStateOutsideRun : Obligations.SetStateOutsideRun := by
  intro s r rest h
  refine ⟨fun hl => ?_, fun b ha hb => ?_, fun b ha hb => ?_, fun ha hp => ?_, fun ha hp => ?_, fun ha hp => ?_, fun ha hp => ?_,
    fun ha hr hs => ?_⟩
  · exact exec_setState_refused h (by simp [answerSetState, hl])
  · exact exec_setState_refused h (by simp [answerSetState, ha, Request.arg, byteAt, partOfCode_above hb])
  · obtain rfl := BitVec.eq_of_toNat_eq hb
    exact exec_setState_changes h ha (partOfCode_code _) s.changeState_stays rfl
  · have hmove : s.changeState .pass = accepted (s.withPart .pass) := by
      rcases hp with hp | hp <;> simp only [State.changeState, hp]
    exact exec_setState_changes h ha rfl hmove rfl
  · have hmove : s.changeState .config = accepted (s.withPart .config) := by
      rcases hp with hp | hp <;> simp only [State.changeState, hp]
    exact exec_setState_changes h ha rfl hmove rfl
  · have hlocked : s.changeState .run = refuse s .locked := by rcases hp with hp | hp <;> simp only [State.changeState, hp]
    exact exec_setState_refused h ((answerSetState_target ha rfl).trans hlocked)
  · have hlocked : s.changeState .failsafe = refuse s .locked := by rcases hp with hp | hp <;> simp only [State.changeState, hp]
    exact exec_setState_refused h ((answerSetState_target ha rfl).trans hlocked)
  · have hstand : s.standstill = false := by simpa [State.standstill] using hs
    rcases ha with ha | ha
    all_goals
      refine exec_setState_refused h ((answerSetState_target ha rfl).trans ?_)
      simp [State.changeState, hr, State.requestLeave, hstand]

end Sys2Proof.Machine

/-! READ_STATUS of sections PART and LINK (R21, R170). -/

namespace Sys2Proof.Machine

/-! ## Section PART: the request -/

section
variable {s : State} {r : Request} {rest : List Request} (h : s.asks r rest 0x05)
include h

/-- A request with no section, with section PART or with one above 3 is served as one of PART (note 5). -/
theorem State.asks_ofSectionPart (ha : r.arg 0 = 0 ∨ 3 < r.arg 0) : ofSectionPart r = true := by
  have hk : ofKind reqReadStatus r = true := State.asks_ofKind h rfl
  have hother (n : Nat) (h1 : 1 ≤ n) (h3 : n ≤ 3) : ofSection n r = false := by
    have hne : r.arg 0 ≠ n := by omega
    simp [ofSection, hne]
  simp [ofSectionPart, hk, hother]

theorem exec_readStatusPart_empty (ha : r.args = []) : exec .readStatusPart s = .next (s.replied r .badRequest []) :=
  congrArg Host.Outcome.next (serve_refuse h.1 (State.asks_ofSectionPart h (.inl (by simp [Request.arg, byteAt, ha])))
    (if_pos (by simp [ha])))

theorem exec_readStatusPart_unknown {b : Byte} {tail : List Byte} (ha : r.args = b :: tail) (hb : 3 < b.toNat) :
    exec .readStatusPart s = .next (s.replied r .badIndex []) := by
  have harg : 3 < r.arg 0 := by simpa [Request.arg, byteAt, ha] using hb
  refine congrArg Host.Outcome.next (serve_refuse h.1 (State.asks_ofSectionPart h (.inr harg)) ?_)
  rw [answerReadStatusPart, if_neg (by simp [ha]), if_pos (by omega)]

theorem exec_readStatusPart_length {tail : List Byte} (ha : r.args = 0 :: tail) (hl : tail.length ≠ 1) :
    exec .readStatusPart s = .next (s.replied r .badRequest []) := by
  have harg : r.arg 0 = 0 := by simp [Request.arg, byteAt, ha]
  exact congrArg Host.Outcome.next (serve_refuse h.1 (State.asks_ofSectionPart h (.inl harg))
    (by simp [answerReadStatusPart, harg, ha, hl]))

variable {page : Byte} (ha : r.args = [0, page])
include ha

theorem exec_readStatusPart_page {a : Answer} (hp : (s.partPage page.toNat).getD (refuse s .badIndex) = a)
    (hreads : a.reads = none) : exec .readStatusPart s = .next (a.state.replied r a.status a.data) := by
  have harg : r.arg 0 = 0 := by simp [Request.arg, byteAt, ha]
  have hpage : r.arg 1 = page.toNat := by simp [Request.arg, byteAt, ha]
  have hanswer : answerReadStatusPart r s = a := by simp [answerReadStatusPart, harg, hpage, ha, hp]
  refine congrArg Host.Outcome.next ((serve_head h.1 (State.asks_ofSectionPart h (.inl harg))).trans ?_)
  rw [hanswer, Answer.send_plain _ _ hreads]
  rfl

theorem exec_readStatusPart_badIndex (hp : 3 < page.toNat) : exec .readStatusPart s = .next (s.replied r .badIndex []) := by
  have hnone : s.partPage page.toNat = none := by
    match page.toNat, hp with
    | _ + 4, _ => rfl
  exact exec_readStatusPart_page h ha (a := refuse s .badIndex) (by rw [hnone]; rfl) rfl

theorem exec_readStatusPart_page0 (hp : page = 0) :
    exec .readStatusPart s = .next ({ s with draws := s.draws + 2 }.replied r .ok s.partPage0) :=
  exec_readStatusPart_page h ha (a := answer s.drawn2 s.partPage0) (by rw [hp]; rfl) rfl

theorem exec_readStatusPart_page1 (hp : page = 1) :
    exec .readStatusPart s = .next ({ s with draws := s.draws + 2 }.replied r .ok s.partPage1) :=
  exec_readStatusPart_page h ha (a := answer s.drawn2 s.partPage1) (by rw [hp]; rfl) rfl

theorem exec_readStatusPart_page2 (hp : page = 2) : exec .readStatusPart s = .next (s.replied r .ok s.partPage2) :=
  exec_readStatusPart_page h ha (a := answer s s.partPage2) (by rw [hp]; rfl) rfl

theorem exec_readStatusPart_page3 (hp : page = 3) : exec .readStatusPart s = .next (s.replied r .ok s.partPage3) :=
  exec_readStatusPart_page h ha (a := answer s s.partPage3) (by rw [hp]; rfl) rfl

end

/-! ## Section PART: the pages -/

theorem perTruck_eq (f : TruckSlot → List Byte) : perTruck f = ([0, 1] : List TruckSlot).flatMap f := by
  simp [perTruck]

theorem SourceRec.bytes_length (draw : Nat) (x : SourceRec) : (x.bytes draw).length = 15 := by
  cases hp : x.payload <;> simp [SourceRec.bytes, stampBytes, hp]

section
variable (s : State)

theorem State.partPage0_eq : s.partPage0 =
    [s.agent.part.code, s.agent.cause.code, code s.agent.causeEntry] ++ s.demand.sources[0].bytes s.draws ++
      s.demand.sources[1].bytes (s.draws + 1) ++ [s.demand.eff.mode.code] ++ toBytes 2 s.demand.eff.level ++
      toBytes 2 s.demand.eff.floor ++ [s.demand.eff.origin.code, flag s.demand.eff.latch, flag s.blend.fallback] := by
  simp [State.partPage0, EffDemand.bytes]

theorem State.partPage0_length : s.partPage0.length = 41 := by
  simp [State.partPage0_eq, SourceRec.bytes_length]

theorem State.partPage1_length : s.partPage1.length = 36 := by
  simp [State.partPage1, stampBytes, total2, perTruck, TruckPub.bytes]

theorem State.partPage2_length : s.partPage2.length = 40 := by
  simp [State.partPage2, perAxle, perTruck, optional2]

theorem State.partPage3_length : s.partPage3.length = 24 := by
  simp [State.partPage3, monitorEntries, RunState.bytes]

end

/-! ## Section LINK -/

/-- The counters of a port in the order of Table 1-22. -/
def PortState.counters (x : PortState) : List Counter := [x.good, x.badCheck, x.badForm, x.overflow, x.transmitted]

theorem PortState.counterBytes_eq (x : PortState) : x.counterBytes = x.counters.flatMap Machine.counterBytes := by
  simp [PortState.counterBytes, PortState.counters]

/-- The part-wide counters in the order of Table 1-22. -/
def LinkBlock.counters (l : LinkBlock) : List Counter :=
  [l.unclaimed, l.demandRefused, l.sampleRefused, l.reportsRefused, l.responsesDropped]

theorem LinkBlock.page1_eq (l : LinkBlock) : l.page1 = l.counters.flatMap counterBytes := by
  simp [LinkBlock.page1, LinkBlock.counters]

theorem LinkBlock.page0_eq (l : LinkBlock) : l.page0 = (l.portA.counters ++ l.portB.counters).flatMap counterBytes := by
  rw [LinkBlock.page0, PortState.counterBytes_eq, PortState.counterBytes_eq, List.flatMap_append]

section
variable {s : State} {r : Request} {rest : List Request} (h : s.asks r rest 0x05)
include h

theorem exec_readStatusLink_length {tail : List Byte} (ha : r.args = 2 :: tail) (hl : tail.length ≠ 2) :
    exec .readStatusLink s = .next (s.replied r .badRequest []) :=
  congrArg Host.Outcome.next (serve_refuse h.1 (State.asks_ofSection h ha) (if_pos (by simpa [ha] using hl)))

variable {clear page : Byte} (ha : r.args = [2, clear, page])
include ha

theorem exec_readStatusLink_badIndex (hp : 1 < page.toNat) : exec .readStatusLink s = .next (s.replied r .badIndex []) :=
  congrArg Host.Outcome.next (serve_refuse h.1 (State.asks_ofSection h ha)
    (by simp [answerReadStatusLink, ha, Request.arg, byteAt, hp]))

theorem exec_readStatusLink_badValue (hp : page.toNat ≤ 1) (hc : 1 < clear.toNat) :
    exec .readStatusLink s = .next (s.replied r .badValue []) :=
  congrArg Host.Outcome.next (serve_refuse h.1 (State.asks_ofSection h ha)
    (by simp [answerReadStatusLink, ha, Request.arg, byteAt, Nat.not_lt.2 hp, hc]))

theorem exec_readStatusLink_page (hc : clear.toNat ≤ 1) (hp : page.toNat ≤ 1) : exec .readStatusLink s =
    .next (State.replied (if clear = 0 then s else s.clearLinkCounters) r .ok
      (if page = 0 then s.link.page0 else s.link.page1)) := by
  have hzero (b : Byte) : b.toNat = 0 ↔ b = 0 := BitVec.toNat_inj (y := 0)
  have hclear : clear.toNat = 1 ↔ ¬ clear = 0 := by
    rw [← hzero clear]
    omega
  refine congrArg Host.Outcome.next (serve_answer h.1 (State.asks_ofSection h ha) ?_)
  simp [answerReadStatusLink, ha, Request.arg, byteAt, Nat.not_lt.2 hp, Nat.not_lt.2 hc, State.linkAnswer, hclear, hzero]

end

/-- Settles O56: the checks of each section, and its pages byte for byte. -/
theorem partAndLinkStatus : Obligations.PartAndLinkStatus := by
  intro s r rest h bit modeCode reliefCode source page0 p total page1 page2 page3
  have hpage0 : page0 (Config.absentSequence s.draws) (Config.absentSequence (s.draws + 1)) (Config.absentPayload s.draws)
      (Config.absentPayload (s.draws + 1)) = s.partPage0 := by
    rw [State.partPage0_eq]
    rfl
  have hpage1 : page1 (Config.wideTotal s.draws p.totals.airAchieved) (Config.wideTotal (s.draws + 1) p.totals.dynamicAchieved) =
      s.partPage1 := by
    rw [State.partPage1, perTruck_eq]
    rfl
  have hpage2 : page2 = s.partPage2 := by
    rw [State.partPage2, perAxle_eq, perTruck_eq]
    rfl
  have hpage3 : page3 = s.partPage3 := rfl
  refine ⟨exec_readStatusPart_empty h, fun b tail ha hb => exec_readStatusPart_unknown h ha hb,
    fun tail ha hl => exec_readStatusPart_length h ha hl, fun page ha => ?_, fun tail ha hl => exec_readStatusLink_length h ha hl,
    fun clear page ha hp hc => exec_readStatusLink_badValue h ha hp hc,
    fun clear page ha hp => exec_readStatusLink_badIndex h ha hp, fun clear page ha hc hp => ?_⟩
  · intro served drawn
    refine ⟨exec_readStatusPart_badIndex h ha, fun hp => ?_, fun hp => ?_, fun hp => ?_, fun hp => ?_⟩
    · have hserved := And.intro (exec_readStatusPart_page0 h ha hp) s.partPage0_length
      rw [← hpage0] at hserved
      exact ⟨_, _, _, _, hserved⟩
    · have hserved := And.intro (exec_readStatusPart_page1 h ha hp) s.partPage1_length
      rw [← hpage1] at hserved
      exact ⟨_, _, hserved⟩
    · rw [hpage2]
      exact ⟨exec_readStatusPart_page2 h ha hp, s.partPage2_length⟩
    · rw [hpage3]
      exact ⟨exec_readStatusPart_page3 h ha hp, s.partPage3_length⟩
  · intro per counters zero
    have hdata : (if page = 0 then s.link.page0 else s.link.page1) = counters.flatMap counterBytes := by
      rw [LinkBlock.page0_eq, LinkBlock.page1_eq, ← apply_ite (List.flatMap counterBytes)]
      rfl
    rw [exec_readStatusLink_page h ha hc hp, hdata]
    rfl

end Sys2Proof.Machine

/-! Every command is carried out, and leaves the commands that wait alone (section 2 of the scope, notes 2 and 25). -/

namespace Sys2Proof.Machine

/-! ## The front of the queue -/

theorem step_of_pending {c : Instr} {rest : List Instr} {s : State} (h : s.pending = c :: rest) :
    step s = exec c (s.withPending rest) := by
  simp [step, h]

/-- Settles O1: the queue's rest replaces the whole queue, the state is otherwise the same. -/
theorem stepRunsTheFrontCommand : Obligations.StepRunsTheFrontCommand := fun c rest s =>
  step_of_pending (s := { s with pending := c :: rest }) rfl

/-! ## Every command has a next state -/

/-- No arm of `exec` refuses or stops. FRAME_ARRIVAL alone chooses between two next states. -/
theorem exec_eq_next (c : Instr) (s : State) : ∃ t, exec c s = .next t := by
  cases c with
  | frameArrival p f =>
    cases hrx : (s.port p).rx with
    | none => exact ⟨s, by simp [exec, execFrameArrival, hrx]⟩
    | some stamp => exact ⟨_, exec_frameArrival hrx⟩
  | _ => exact ⟨_, rfl⟩

/-! ## Services leave the waiting commands alone -/

@[simp] theorem refuse_state (s : State) (st : Status) : (refuse s st).state = s := rfl

@[simp] theorem answer_state (s : State) (data : List Byte) : (answer s data).state = s := rfl

theorem Answer.send_pending (a : Answer) (r : Request) : (a.send r).pending = a.state.pending := by
  unfold Answer.send
  split <;> simp

/-- A service leaves the waiting commands as the effects of its request do. -/
theorem serve_pending {mine : Request → Bool} {act : Request → State → Answer} {s : State}
    (h : ∀ r, (act r s).state.pending = s.pending) : (serve mine act s).pending = s.pending := by
  unfold serve
  split
  · rfl
  · split
    · exact (Answer.send_pending _ _).trans (h _)
    · rfl

/-! ## The effects of the requests -/

section
variable (r : Request) (s : State)

/-- Of Table 11-4's transitions, an entry into RUN, a departure from it and an entry into FAILSAFE touch more than the part state;
none touches the waiting commands. -/
theorem State.changeState_pending (p : PartState) : (s.changeState p).state.pending = s.pending := by
  have run : s.requestRun.state.pending = s.pending := by
    unfold State.requestRun
    split <;> simp [accepted_state]
  have leave (q : PartState) : (s.requestLeave q).state.pending = s.pending := by
    unfold State.requestLeave
    split <;> simp [accepted_state]
  unfold State.changeState
  split
  case h_7 => exact run
  case h_9 | h_10 => exact leave _
  all_goals simp [accepted_state]

theorem answerSetState_pending : (answerSetState r s).state.pending = s.pending := by
  unfold answerSetState
  split
  · rfl
  · split
    · rfl
    · exact s.changeState_pending _

theorem State.afterWrite_pending (e : TableRef) : (s.afterWrite e).pending = s.pending := by
  cases e <;> simp [State.afterWrite]

theorem answerWriteEntry_pending : (answerWriteEntry r s).state.pending = s.pending := by
  have written (e : TableRef) (data : List Byte) : (s.writeEntry e data).state.pending = s.pending := by
    unfold State.writeEntry
    split
    · rfl
    · split
      · rfl
      · exact State.afterWrite_pending _ _
  unfold answerWriteEntry
  split
  · rfl
  · split
    · rfl
    · split
      · rfl
      · exact written _ _

theorem answerReadStatusLink_pending : (answerReadStatusLink r s).state.pending = s.pending := by
  unfold answerReadStatusLink State.linkAnswer
  repeat' split
  all_goals simp

theorem answerNode_pending {act : NodeSlot → State → State} (h : ∀ n, (act n s).pending = s.pending) :
    (answerNode act r s).state.pending = s.pending := by
  unfold answerNode
  split
  · rfl
  · split
    · exact h _
    · rfl

theorem answerTrigger_pending : (answerTrigger r s).state.pending = s.pending := by
  unfold answerTrigger
  repeat' split
  all_goals simp

theorem answerInjectSample_pending : (answerInjectSample r s).state.pending = s.pending := by
  unfold answerInjectSample State.injected
  repeat' split
  all_goals simp

theorem execReset_pending {t : State} (h : execReset s = .next t) : t.pending = s.pending := by
  obtain rfl := Host.Outcome.next.inj h
  split
  · rfl
  · split
    · split
      · simp
      · split
        · simp
        · dsimp only
          split <;> simp [State.softReset]
    · rfl

end

/-! ## The commands -/

/-- The services listed last update at most one block's record in place, so their answers keep the waiting commands as they stand. -/
theorem exec_pending {c : Instr} {s t : State} (he : exec c s = .next t) : t.pending = s.pending := by
  cases c with
  | powerOnReset | receptionStart | countStep => obtain rfl := Host.Outcome.next.inj he; simp
  | frameArrival p f =>
    simp only [exec, execFrameArrival] at he
    split at he <;> obtain rfl := Host.Outcome.next.inj he <;> simp [State.endReception]
  | transmissionComplete | lineActiveEdge | lineInactiveEdge | axleAgeExpiry | referenceHoldExpiry | demandLossExpiry |
    epochTimerExpiry | slideHoldExpiry | reliefLockoutExpiry | exchangeDeadlineExpiry | controlLossExpiry |
    lineDebounceExpiry =>
    obtain rfl := Host.Outcome.next.inj he
    split <;> simp
  | setState => obtain rfl := Host.Outcome.next.inj he; exact serve_pending fun r => answerSetState_pending r s
  | writeEntry => obtain rfl := Host.Outcome.next.inj he; exact serve_pending fun r => answerWriteEntry_pending r s
  | readStatusLink => obtain rfl := Host.Outcome.next.inj he; exact serve_pending fun r => answerReadStatusLink_pending r s
  | nodeCut | nodeRestore => obtain rfl := Host.Outcome.next.inj he; exact serve_pending fun r => answerNode_pending r s (by simp)
  | trigger => obtain rfl := Host.Outcome.next.inj he; exact serve_pending fun r => answerTrigger_pending r s
  | injectSample => obtain rfl := Host.Outcome.next.inj he; exact serve_pending fun r => answerInjectSample_pending r s
  | reset => exact execReset_pending s he
  | mgmtUnknownKind => obtain rfl := Host.Outcome.next.inj he; exact serve_pending fun _ => rfl
  | getState | readEntry | readStatusPart | readStatusNodes | readStatusSpeed | readEvents | clearFallback | recordList |
    recordHeader | recordRead | recordRelease | timeRead | timeSet | timeCorrect | readTimemark =>
    obtain rfl := Host.Outcome.next.inj he
    refine serve_pending fun r => ?_
    dsimp only [answerGetState, answerReadEntry, answerReadStatusPart, State.partPage, answerReadStatusNodes,
      answerReadStatusSpeed, answerReadEvents, answerClearFallback, answerRecordList, answerRecordHeader, answerRecordRead,
      State.snapshotPart, answerRecordRelease, answerTimeRead, answerTimeSet, answerTimeCorrect, answerReadTimemark]
    repeat' split
    all_goals rfl

/-- Settles O2: each command has a next state, and every next state keeps the waiting commands. -/
theorem everyCommandIsCarriedOut : Obligations.EveryCommandIsCarriedOut := fun c s =>
  have ⟨t, ht⟩ := exec_eq_next c s
  ⟨t, ht, exec_pending ht⟩

end Sys2Proof.Machine
